-- ==== Sys2Proof/Word.lean ====
section
/-! DEFINITION. The two word types of the CORE (00_scope.md R8: REG_WIDTH, ADDR_WIDTH). -/

namespace Sys2Proof

/-- The contents of a register or of one memory byte (00_scope.md R9: an unsigned bit pattern). -/
abbrev Byte := BitVec 8

/-- The contents of `pc` and `sp`, a pair view and a bus address; its arithmetic is modulo 65536
(10_state.md R27, R29; 20_memory.md R67). -/
abbrev Word := BitVec 16

end Sys2Proof
end

