-- ==== Sys2Proof/Machine/Bits.lean ====
section
/-! DEFINITION. The bit-field helpers of 00_scope.md R9: bits of a byte, the two bytes of a word, concatenation. -/

namespace Sys2Proof.Machine

/-- `v[15:8]`. -/
def hiByte (v : Word) : Byte := v.extractLsb' 8 8

/-- `v[7:0]`. -/
def loByte (v : Word) : Byte := v.extractLsb' 0 8

/-- `{hi, lo} = (hi << 8) | lo` (40_operand_resolution.md R113). -/
def joinBytes (hi lo : Byte) : Word := hi.zeroExtend 16 <<< 8 ||| lo.zeroExtend 16

/-- `v[i]`. -/
def bitAt (v : Byte) (i : Nat) : Bool := v.getLsbD i

/-- `1 << i`, within a byte. -/
def bitMask (i : Nat) : Byte := 1#8 <<< i

/-- `v` with bit `i` equal to `x` and the other seven bits unchanged (00_scope.md R10, `F.Z <- b`). -/
def putBit (v : Byte) (i : Nat) (x : Bool) : Byte := if x then v ||| bitMask i else v &&& ~~~(bitMask i)

/-- `{v[3:0], v[7:4]} = (v << 4) | (v >> 4)` within a byte (43_alu_unary.md R180). -/
def swapNibbles (v : Byte) : Byte := v <<< 4 ||| v >>> 4

/-- `v & 0xF` as a number (43_alu_unary.md R182). -/
def lowNibble (v : Byte) : Nat := v.toNat % 16

end Sys2Proof.Machine
end

