-- ==== Sys2Proof/Config.lean ====
section
/-! DEFINITION. The parameters of 00_scope.md R8. Those the source fixes are constants; each one the spec decides is a field of
`Params`, with the spec's value as its default. The value the machine runs with is `Machine.params` (Machine/Ops.lean),
which takes every default; the operations, the dispatch cascade and load-image take a `Params` as an argument. -/

namespace Sys2Proof

/-- `WRAP` (R8, D14). The spec admits one rule: "the only reduction a 16-bit register performs". -/
inductive Wrap where
  | modulo65536
  deriving DecidableEq, Repr

/-- `RST_PUSH` (R8, D8). The spec admits one width: the truncated variant is one "a model must not implement"
(93_implementation_defined.md U6). -/
inductive RstPush where
  | bits16
  deriving DecidableEq, Repr

/-- `INCDEC_H` (R8, D9). The spec admits one rule (93_implementation_defined.md U7). -/
inductive IncDecH where
  | nibbleWrap
  deriving DecidableEq, Repr

namespace Config

/-- RESET_PC (R8, 10_state.md R35). -/
def resetPc : Word := 0x0100

/-- RESET_SP (R8, 10_state.md R35). -/
def resetSp : Word := 0xFFFE

/-- RESET_REG (R8, 10_state.md R35). -/
def resetReg : Byte := 0x00

/-- MEM_SIZE (R8, 20_memory.md R50). -/
def memSize : Nat := 65536

/-- PREFIX (R8, 30_encoding.md R81): the byte that enters the extended page. -/
def prefixByte : Byte := 0xCB

/-- The 171 wired primary bytes, group by group of the table of 30_encoding.md R88. -/
def wiredPrimary : List Byte :=
  [0x00] ++ [0x06, 0x0E, 0x16, 0x1E, 0x26, 0x2E, 0x3E] ++ -- NOP, LD r,n
  [0x40, 0x41, 0x42, 0x43, 0x44, 0x45, 0x46, 0x47, 0x48, 0x49, 0x4A, 0x4B, 0x4C, 0x4D, 0x4E, 0x4F] ++
  [0x50, 0x51, 0x52, 0x53, 0x54, 0x55, 0x56, 0x57, 0x58, 0x59, 0x5A, 0x5B, 0x5C, 0x5D, 0x5E, 0x5F] ++
  [0x60, 0x61, 0x62, 0x63, 0x64, 0x65, 0x66, 0x67, 0x68, 0x69, 0x6A, 0x6B, 0x6C, 0x6D, 0x6E, 0x6F] ++
  [0x70, 0x71, 0x72, 0x73, 0x74, 0x75, 0x77, 0x78, 0x79, 0x7A, 0x7B, 0x7C, 0x7D, 0x7E, 0x7F] ++ -- LD r,r', LD r,(HL), LD (HL),r
  [0x0A, 0x1A] ++ [0x02, 0x12] ++ -- LD A,(BC), LD A,(DE), LD (BC),A, LD (DE),A
  [0x80, 0x81, 0x82, 0x83, 0x84, 0x85, 0x86, 0x87, 0x88, 0x89, 0x8A, 0x8B, 0x8C, 0x8D, 0x8E, 0x8F] ++
  [0x90, 0x91, 0x92, 0x93, 0x94, 0x95, 0x96, 0x97, 0x98, 0x99, 0x9A, 0x9B, 0x9C, 0x9D, 0x9E, 0x9F] ++
  [0xA0, 0xA1, 0xA2, 0xA3, 0xA4, 0xA5, 0xA6, 0xA7, 0xA8, 0xA9, 0xAA, 0xAB, 0xAC, 0xAD, 0xAE, 0xAF] ++
  [0xB0, 0xB1, 0xB2, 0xB3, 0xB4, 0xB5, 0xB6, 0xB7] ++ -- op A,s
  [0xC6, 0xCE, 0xD6, 0xDE, 0xE6, 0xEE, 0xF6] ++ -- op A,n
  [0x04, 0x0C, 0x14, 0x1C, 0x24, 0x2C, 0x34, 0x3C] ++ [0x05, 0x0D, 0x15, 0x1D, 0x25, 0x2D, 0x35, 0x3D] ++ -- INC s, DEC s
  [0xC1, 0xD1, 0xE1, 0xF1] ++ [0xC5, 0xD5, 0xE5, 0xF5] ++ -- POP pp, PUSH pp
  [0xC7, 0xCF, 0xD7, 0xDF, 0xE7, 0xEF, 0xF7, 0xFF] ++ [0xCB] -- RST, the prefix byte

/-- The 200 wired selectors (30_encoding.md R88). -/
def wiredExtended : List Byte :=
  [0x30, 0x31, 0x32, 0x33, 0x34, 0x35, 0x36, 0x37] ++ -- SWAP
  [0x40, 0x41, 0x42, 0x43, 0x44, 0x45, 0x46, 0x47, 0x48, 0x49, 0x4A, 0x4B, 0x4C, 0x4D, 0x4E, 0x4F] ++
  [0x50, 0x51, 0x52, 0x53, 0x54, 0x55, 0x56, 0x57, 0x58, 0x59, 0x5A, 0x5B, 0x5C, 0x5D, 0x5E, 0x5F] ++
  [0x60, 0x61, 0x62, 0x63, 0x64, 0x65, 0x66, 0x67, 0x68, 0x69, 0x6A, 0x6B, 0x6C, 0x6D, 0x6E, 0x6F] ++
  [0x70, 0x71, 0x72, 0x73, 0x74, 0x75, 0x76, 0x77, 0x78, 0x79, 0x7A, 0x7B, 0x7C, 0x7D, 0x7E, 0x7F] ++ -- BIT
  [0x80, 0x81, 0x82, 0x83, 0x84, 0x85, 0x86, 0x87, 0x88, 0x89, 0x8A, 0x8B, 0x8C, 0x8D, 0x8E, 0x8F] ++
  [0x90, 0x91, 0x92, 0x93, 0x94, 0x95, 0x96, 0x97, 0x98, 0x99, 0x9A, 0x9B, 0x9C, 0x9D, 0x9E, 0x9F] ++
  [0xA0, 0xA1, 0xA2, 0xA3, 0xA4, 0xA5, 0xA6, 0xA7, 0xA8, 0xA9, 0xAA, 0xAB, 0xAC, 0xAD, 0xAE, 0xAF] ++
  [0xB0, 0xB1, 0xB2, 0xB3, 0xB4, 0xB5, 0xB6, 0xB7, 0xB8, 0xB9, 0xBA, 0xBB, 0xBC, 0xBD, 0xBE, 0xBF] ++ -- RES
  [0xC0, 0xC1, 0xC2, 0xC3, 0xC4, 0xC5, 0xC6, 0xC7, 0xC8, 0xC9, 0xCA, 0xCB, 0xCC, 0xCD, 0xCE, 0xCF] ++
  [0xD0, 0xD1, 0xD2, 0xD3, 0xD4, 0xD5, 0xD6, 0xD7, 0xD8, 0xD9, 0xDA, 0xDB, 0xDC, 0xDD, 0xDE, 0xDF] ++
  [0xE0, 0xE1, 0xE2, 0xE3, 0xE4, 0xE5, 0xE6, 0xE7, 0xE8, 0xE9, 0xEA, 0xEB, 0xEC, 0xED, 0xEE, 0xEF] ++
  [0xF0, 0xF1, 0xF2, 0xF3, 0xF4, 0xF5, 0xF6, 0xF7, 0xF8, 0xF9, 0xFA, 0xFB, 0xFC, 0xFD, 0xFE, 0xFF] -- SET

end Config

/-- The parameters of R8 that the spec decides, each DESIGN CHOICE of the spec (the decision named), each with the spec's value
as its default. -/
structure Params where
  /-- IMAGE_BASE (70_reset_and_hazards.md R297, D19): where load-image starts copying. Unsafe where the host uses another base:
  log entry 3. -/
  imageBase : Word := 0x0000
  /-- F_WRITE_MASK (45_stack.md R225, D13): the mask on the byte POP AF writes to F. Unsafe where the hardware takes the
  alternative 0xF0: log entry 2. -/
  fWriteMask : Byte := 0xFF
  /-- CARRY_IN_FLAGS (42_alu_binary.md R156, D10): whether the carry detector of ADC and SBC counts the carry-in. Unsafe where
  the hardware takes the alternative true: log entry 1. -/
  carryInFlags : Bool := false
  /-- The position of Z in F (10_state.md R23, D7; log entry 18). -/
  zBit : Nat := 7
  /-- The position of N in F. -/
  nBit : Nat := 6
  /-- The position of H in F. -/
  hBit : Nat := 5
  /-- The position of C in F. -/
  cBit : Nat := 4
  /-- RST_PUSH (45_stack.md R223, D8; log entry 19). -/
  rstPush : RstPush := .bits16
  /-- INCDEC_H (43_alu_unary.md R182, D9; log entry 18). -/
  incDecH : IncDecH := .nibbleWrap
  /-- INVALID_SET (30_encoding.md R90, D5; log entry 16). -/
  invalidSet : List Byte := [0xD3, 0xDB, 0xDD, 0xE3, 0xE4, 0xEB, 0xEC, 0xED, 0xF4, 0xFC, 0xFD]
  /-- WIRED_SET, the primary page (30_encoding.md R88, D4; log entry 16). -/
  wiredPrimary : List Byte := Config.wiredPrimary
  /-- WIRED_SET, the extended page. -/
  wiredExtended : List Byte := Config.wiredExtended
  /-- The fault code of InvalidOpcode (60_exceptions.md R260, D16; log entry 20). -/
  codeInvalidOpcode : Nat := 1
  /-- The fault code of NotImplemented. -/
  codeNotImplemented : Nat := 2
  /-- The fault code of InvalidOperandMask. -/
  codeInvalidOperandMask : Nat := 3
  /-- WRAP (10_state.md R27, R29, D14; log entry 17): how an address one past the last, or one below 0, is reduced. -/
  wrap : Wrap := .modulo65536
  deriving DecidableEq, Repr

/-- The four flags are four bits of F: the premise of a claim about every choice of their positions. -/
def Params.FlagBitsDistinct (cfg : Params) : Prop :=
  cfg.zBit < 8 ∧ cfg.nBit < 8 ∧ cfg.hBit < 8 ∧ cfg.cBit < 8 ∧ [cfg.zBit, cfg.nBit, cfg.hBit, cfg.cBit].Nodup

end Sys2Proof
end

