-- ==== Sys2Proof/Machine/State.lean ====
section
/-! DEFINITION. The state of the CORE as plain data (10_state.md R20 to R35), the reasons a step could stop, and the
state after construction and reset. -/

namespace Sys2Proof.Machine

/-- Memory (10_state.md R30) as the list of the bytes that differ from what an unlisted address reads as; its canonical
form is `Memory.wf` (Machine/Ops.lean). -/
abbrev Memory := List Host.Cell

/-- The kinds of fault (60_exceptions.md R260). -/
inductive FaultKind where
  /-- Code 1 (R261). -/
  | invalidOpcode
  /-- Code 2 (R262). -/
  | notImplemented
  /-- Code 3 (R264), raised only by the mask operations of Machine/Masks.lean, never by a step. -/
  | invalidOperandMask
  deriving DecidableEq, Repr

/-- The fault record (10_state.md R31). -/
structure FaultRecord where
  kind   : FaultKind
  /-- The byte that had no action. -/
  opcode : Byte
  /-- The address that byte was fetched from. -/
  addr   : Word
  /-- Whether the byte was dispatched through the extended table. -/
  ext    : Bool
  deriving DecidableEq, Repr

/-- The run status (10_state.md R31). -/
inductive Status where
  | running
  | faulted (record : FaultRecord)
  deriving DecidableEq, Repr

/-- Everything the spec gives the machine (10_state.md, head of the file, and R32). The flags are bits of `f` (R23); the
pairs are views (R21). -/
structure State where
  a      : Byte
  f      : Byte
  b      : Byte
  c      : Byte
  d      : Byte
  e      : Byte
  h      : Byte
  l      : Byte
  pc     : Word
  sp     : Word
  mem    : Memory
  status : Status
  deriving DecidableEq, Repr

/-- The faults that would stop the MODEL. It has no constructor: every stop the spec names is the next state whose
`status` is `faulted` (60_exceptions.md R263), so nothing raises one (log entry 4). -/
inductive Fault where
  deriving DecidableEq, Repr

/-- The refusals of the model. -/
inductive Refusal where
  /-- Raised only by an arm of `exec` whose instruction has no meaning yet. Safe: nothing follows from it. No arm of this
  model raises it. -/
  | notModelled (mnemonic : String)
  deriving DecidableEq, Repr

/-- What a meaning answers. -/
abbrev Result := Host.Outcome State Fault Refusal

/-- The machine after construction (10_state.md R35; 70_reset_and_hazards.md R290, R291): every memory byte is zero, so
memory lists nothing. `Reset()` on a machine that has run is `hostReset` (Machine/Ops.lean), which keeps memory. -/
def State.reset : State where
  a := Config.resetReg
  f := Config.resetReg
  b := Config.resetReg
  c := Config.resetReg
  d := Config.resetReg
  e := Config.resetReg
  h := Config.resetReg
  l := Config.resetReg
  pc := Config.resetPc
  sp := Config.resetSp
  mem := []
  status := .running

end Sys2Proof.Machine
end

