-- ==== Sys2Proof/Syntax.lean ====
section
/-! DEFINITION. The names of registers, pairs, slots and functions, and the instructions: `Instr` has one constructor for
each row of spec/opcode_table.json; `Form` is the same wired instructions by their fields (the
table's own "format" and "fields" columns, 30_encoding.md R99). -/

namespace Sys2Proof

/-- The eight byte registers (10_state.md R20). -/
inductive Reg where
  | a | f | b | c | d | e | h | l
  deriving DecidableEq, Repr

/-- The seven registers an operand slot can name (30_encoding.md R84): never F. -/
inductive GReg where
  | b | c | d | e | h | l | a
  deriving DecidableEq, Repr

/-- The register file's name of a slot register. -/
def GReg.toReg : GReg → Reg
  | .b => .b
  | .c => .c
  | .d => .d
  | .e => .e
  | .h => .h
  | .l => .l
  | .a => .a

/-- An operand slot (30_encoding.md R84): one of seven registers, or the memory byte at HL. -/
inductive Slot where
  | reg (r : GReg)
  | memHl
  deriving DecidableEq, Repr

/-- The four register pairs (10_state.md R21). -/
inductive Pair where
  | af | bc | de | hl
  deriving DecidableEq, Repr

/-- The register that is a pair's high byte (10_state.md R21). -/
def Pair.hi : Pair → Reg
  | .af => .a
  | .bc => .b
  | .de => .d
  | .hl => .h

/-- The register that is a pair's low byte (10_state.md R21). -/
def Pair.lo : Pair → Reg
  | .af => .f
  | .bc => .c
  | .de => .e
  | .hl => .l

/-- The two pairs of the accumulator loads and stores (30_encoding.md R85, the 1-bit field `p`). -/
inductive IndPair where
  | bc | de
  deriving DecidableEq, Repr

/-- The pair a 1-bit pair field names. -/
def IndPair.toPair : IndPair → Pair
  | .bc => .bc
  | .de => .de

/-- The seven binary functions (30_encoding.md R86, 42_alu_binary.md R152). -/
inductive AluFn where
  | add | adc | sub | sbc | and | xor | or
  deriving DecidableEq, Repr

/-- The three unary functions (43_alu_unary.md R180). -/
inductive UnaryFn where
  | inc | dec | swap
  deriving DecidableEq, Repr

/-- The three operations of the bit engine (44_bit_ops.md R200 to R202). -/
inductive BitFn where
  | test | reset | set
  deriving DecidableEq, Repr

/-- A 3-bit field as a number 0 to 7: the bit number of 44_bit_ops.md R203, the vector index of 45_stack.md R226. -/
inductive Oct where
  | o0 | o1 | o2 | o3 | o4 | o5 | o6 | o7
  deriving DecidableEq, Repr

/-- The value of a 3-bit field. -/
def Oct.toNat : Oct → Nat
  | .o0 => 0
  | .o1 => 1
  | .o2 => 2
  | .o3 => 3
  | .o4 => 4
  | .o5 => 5
  | .o6 => 6
  | .o7 => 7

/-- The wired instructions by form and fields (30_encoding.md R82, R83). -/
inductive Form where
  /-- `NOP`. -/
  | nop
  /-- `LD r,n`. -/
  | ldImm (r : GReg) (n : Byte)
  /-- `LD dst,src` between registers. -/
  | ldReg (dst src : GReg)
  /-- `LD dst,(HL)`. -/
  | ldFromHl (dst : GReg)
  /-- `LD (HL),src`. -/
  | ldToHl (src : GReg)
  /-- `LD A,(BC)` and `LD A,(DE)`. -/
  | ldAFrom (p : IndPair)
  /-- `LD (BC),A` and `LD (DE),A`. -/
  | ldATo (p : IndPair)
  /-- `fn A,s`. -/
  | alu (fn : AluFn) (s : Slot)
  /-- `fn A,n`. -/
  | aluImm (fn : AluFn) (n : Byte)
  /-- `INC s`, `DEC s`, `SWAP s`. -/
  | unary (fn : UnaryFn) (s : Slot)
  /-- `BIT b,s`, `RES b,s`, `SET b,s`. -/
  | bitOp (fn : BitFn) (b : Oct) (s : Slot)
  /-- `PUSH rr`. -/
  | push (p : Pair)
  /-- `POP rr`. -/
  | pop (p : Pair)
  /-- `RST 8*t`. -/
  | rst (t : Oct)
  deriving DecidableEq, Repr

/-- The instructions, one constructor for each row of spec/opcode_table.json. A row with an immediate byte has it as its
operand `n`; `prefixCb` has the selector byte (46_dispatch.md R245). The rows the table calls unimplemented and invalid
are instructions too: they take a fault (46_dispatch.md R246, R247). -/
inductive Instr where
  -- rows with an operand byte (they stand first: Lean limits the index of a constructor that has fields)
  | ldBN (n : Byte)
  | ldCN (n : Byte)
  | ldDN (n : Byte)
  | ldEN (n : Byte)
  | ldHN (n : Byte)
  | ldLN (n : Byte)
  | ldAN (n : Byte)
  | addAN (n : Byte)
  | prefixCb (sel : Byte)
  | adcAN (n : Byte)
  | subAN (n : Byte)
  | sbcAN (n : Byte)
  | andAN (n : Byte)
  | xorAN (n : Byte)
  | orAN (n : Byte)
  -- the other rows of the primary page, 30_encoding.md R89
  | nop
  | unimplLdBcNn
  | ldMemBcA
  | unimplIncBc
  | incB
  | decB
  | unimplRlca
  | unimplLdMemNnSp
  | unimplAddHlBc
  | ldAMemBc
  | unimplDecBc
  | incC
  | decC
  | unimplRrca
  | unimplStop
  | unimplLdDeNn
  | ldMemDeA
  | unimplIncDe
  | incD
  | decD
  | unimplRla
  | unimplJrE
  | unimplAddHlDe
  | ldAMemDe
  | unimplDecDe
  | incE
  | decE
  | unimplRra
  | unimplJrNzE
  | unimplLdHlNn
  | unimplLdMemHlIncA
  | unimplIncHl
  | incH
  | decH
  | unimplDaa
  | unimplJrZE
  | unimplAddHlHl
  | unimplLdAMemHlInc
  | unimplDecHl
  | incL
  | decL
  | unimplCpl
  | unimplJrNcE
  | unimplLdSpNn
  | unimplLdMemHlDecA
  | unimplIncSp
  | incMemHl
  | decMemHl
  | unimplLdMemHlN
  | unimplScf
  | unimplJrCE
  | unimplAddHlSp
  | unimplLdAMemHlDec
  | unimplDecSp
  | incA
  | decA
  | unimplCcf
  | ldBB
  | ldBC
  | ldBD
  | ldBE
  | ldBH
  | ldBL
  | ldBMemHl
  | ldBA
  | ldCB
  | ldCC
  | ldCD
  | ldCE
  | ldCH
  | ldCL
  | ldCMemHl
  | ldCA
  | ldDB
  | ldDC
  | ldDD
  | ldDE
  | ldDH
  | ldDL
  | ldDMemHl
  | ldDA
  | ldEB
  | ldEC
  | ldED
  | ldEE
  | ldEH
  | ldEL
  | ldEMemHl
  | ldEA
  | ldHB
  | ldHC
  | ldHD
  | ldHE
  | ldHH
  | ldHL
  | ldHMemHl
  | ldHA
  | ldLB
  | ldLC
  | ldLD
  | ldLE
  | ldLH
  | ldLL
  | ldLMemHl
  | ldLA
  | ldMemHlB
  | ldMemHlC
  | ldMemHlD
  | ldMemHlE
  | ldMemHlH
  | ldMemHlL
  | unimplHalt
  | ldMemHlA
  | ldAB
  | ldAC
  | ldAD
  | ldAE
  | ldAH
  | ldAL
  | ldAMemHl
  | ldAA
  | addAB
  | addAC
  | addAD
  | addAE
  | addAH
  | addAL
  | addAMemHl
  | addAA
  | adcAB
  | adcAC
  | adcAD
  | adcAE
  | adcAH
  | adcAL
  | adcAMemHl
  | adcAA
  | subAB
  | subAC
  | subAD
  | subAE
  | subAH
  | subAL
  | subAMemHl
  | subAA
  | sbcAB
  | sbcAC
  | sbcAD
  | sbcAE
  | sbcAH
  | sbcAL
  | sbcAMemHl
  | sbcAA
  | andAB
  | andAC
  | andAD
  | andAE
  | andAH
  | andAL
  | andAMemHl
  | andAA
  | xorAB
  | xorAC
  | xorAD
  | xorAE
  | xorAH
  | xorAL
  | xorAMemHl
  | xorAA
  | orAB
  | orAC
  | orAD
  | orAE
  | orAH
  | orAL
  | orAMemHl
  | orAA
  | unimplCpB
  | unimplCpC
  | unimplCpD
  | unimplCpE
  | unimplCpH
  | unimplCpL
  | unimplCpMemHl
  | unimplCpA
  | unimplRetNz
  | popBc
  | unimplJpNzNn
  | unimplJpNn
  | unimplCallNzNn
  | pushBc
  | rst00
  | unimplRetZ
  | unimplRet
  | unimplJpZNn
  | unimplCallZNn
  | unimplCallNn
  | rst08
  | unimplRetNc
  | popDe
  | unimplJpNcNn
  | invalidD3
  | unimplCallNcNn
  | pushDe
  | rst10
  | unimplRetC
  | unimplReti
  | unimplJpCNn
  | invalidDB
  | unimplCallCNn
  | invalidDD
  | rst18
  | unimplLdhMemNA
  | popHl
  | unimplLdMemCA
  | invalidE3
  | invalidE4
  | pushHl
  | rst20
  | unimplAddSpE
  | unimplJpHl
  | unimplLdMemNnA
  | invalidEB
  | invalidEC
  | invalidED
  | rst28
  | unimplLdhAMemN
  | popAf
  | unimplLdAMemC
  | unimplDi
  | invalidF4
  | pushAf
  | rst30
  | unimplLdHlSpPlusE
  | unimplLdSpHl
  | unimplLdAMemNn
  | unimplEi
  | invalidFC
  | invalidFD
  | unimplCpN
  | rst38
  -- extended page, 30_encoding.md R92
  | unimplRlcB
  | unimplRlcC
  | unimplRlcD
  | unimplRlcE
  | unimplRlcH
  | unimplRlcL
  | unimplRlcMemHl
  | unimplRlcA
  | unimplRrcB
  | unimplRrcC
  | unimplRrcD
  | unimplRrcE
  | unimplRrcH
  | unimplRrcL
  | unimplRrcMemHl
  | unimplRrcA
  | unimplRlB
  | unimplRlC
  | unimplRlD
  | unimplRlE
  | unimplRlH
  | unimplRlL
  | unimplRlMemHl
  | unimplRlA
  | unimplRrB
  | unimplRrC
  | unimplRrD
  | unimplRrE
  | unimplRrH
  | unimplRrL
  | unimplRrMemHl
  | unimplRrA
  | unimplSlaB
  | unimplSlaC
  | unimplSlaD
  | unimplSlaE
  | unimplSlaH
  | unimplSlaL
  | unimplSlaMemHl
  | unimplSlaA
  | unimplSraB
  | unimplSraC
  | unimplSraD
  | unimplSraE
  | unimplSraH
  | unimplSraL
  | unimplSraMemHl
  | unimplSraA
  | swapB
  | swapC
  | swapD
  | swapE
  | swapH
  | swapL
  | swapMemHl
  | swapA
  | unimplSrlB
  | unimplSrlC
  | unimplSrlD
  | unimplSrlE
  | unimplSrlH
  | unimplSrlL
  | unimplSrlMemHl
  | unimplSrlA
  | bit0B
  | bit0C
  | bit0D
  | bit0E
  | bit0H
  | bit0L
  | bit0MemHl
  | bit0A
  | bit1B
  | bit1C
  | bit1D
  | bit1E
  | bit1H
  | bit1L
  | bit1MemHl
  | bit1A
  | bit2B
  | bit2C
  | bit2D
  | bit2E
  | bit2H
  | bit2L
  | bit2MemHl
  | bit2A
  | bit3B
  | bit3C
  | bit3D
  | bit3E
  | bit3H
  | bit3L
  | bit3MemHl
  | bit3A
  | bit4B
  | bit4C
  | bit4D
  | bit4E
  | bit4H
  | bit4L
  | bit4MemHl
  | bit4A
  | bit5B
  | bit5C
  | bit5D
  | bit5E
  | bit5H
  | bit5L
  | bit5MemHl
  | bit5A
  | bit6B
  | bit6C
  | bit6D
  | bit6E
  | bit6H
  | bit6L
  | bit6MemHl
  | bit6A
  | bit7B
  | bit7C
  | bit7D
  | bit7E
  | bit7H
  | bit7L
  | bit7MemHl
  | bit7A
  | res0B
  | res0C
  | res0D
  | res0E
  | res0H
  | res0L
  | res0MemHl
  | res0A
  | res1B
  | res1C
  | res1D
  | res1E
  | res1H
  | res1L
  | res1MemHl
  | res1A
  | res2B
  | res2C
  | res2D
  | res2E
  | res2H
  | res2L
  | res2MemHl
  | res2A
  | res3B
  | res3C
  | res3D
  | res3E
  | res3H
  | res3L
  | res3MemHl
  | res3A
  | res4B
  | res4C
  | res4D
  | res4E
  | res4H
  | res4L
  | res4MemHl
  | res4A
  | res5B
  | res5C
  | res5D
  | res5E
  | res5H
  | res5L
  | res5MemHl
  | res5A
  | res6B
  | res6C
  | res6D
  | res6E
  | res6H
  | res6L
  | res6MemHl
  | res6A
  | res7B
  | res7C
  | res7D
  | res7E
  | res7H
  | res7L
  | res7MemHl
  | res7A
  | set0B
  | set0C
  | set0D
  | set0E
  | set0H
  | set0L
  | set0MemHl
  | set0A
  | set1B
  | set1C
  | set1D
  | set1E
  | set1H
  | set1L
  | set1MemHl
  | set1A
  | set2B
  | set2C
  | set2D
  | set2E
  | set2H
  | set2L
  | set2MemHl
  | set2A
  | set3B
  | set3C
  | set3D
  | set3E
  | set3H
  | set3L
  | set3MemHl
  | set3A
  | set4B
  | set4C
  | set4D
  | set4E
  | set4H
  | set4L
  | set4MemHl
  | set4A
  | set5B
  | set5C
  | set5D
  | set5E
  | set5H
  | set5L
  | set5MemHl
  | set5A
  | set6B
  | set6C
  | set6D
  | set6E
  | set6H
  | set6L
  | set6MemHl
  | set6A
  | set7B
  | set7C
  | set7D
  | set7E
  | set7H
  | set7L
  | set7MemHl
  | set7A
  deriving DecidableEq, Repr

end Sys2Proof
end

