-- ==== Sys2Proof/Machine/Ops.lean ====
section
/-! DEFINITION. The named operations over memory and registers: the memory bus (20_memory.md), the register file and its
pair views (10_state.md R20, R21), the fetch (46_dispatch.md R240), the stack primitives (45_stack.md R220, R222), taking
a fault (60_exceptions.md R263) and `Reset()`, the only way out of one (R267). -/

namespace Sys2Proof.Machine

/-- The parameters the CORE runs with: every default of 00_scope.md R8 (log entry 22). -/
def params : Params := {}

/-! ## Memory -/

/-- What an address that memory does not list reads as: the byte memory is constructed with (10_state.md R30,
70_reset_and_hazards.md R291). -/
def Memory.unlisted : Byte := 0x00

/-- The byte a list of cells holds at an address. -/
def Memory.cellAt : Memory → Nat → Byte
  | [], _ => Memory.unlisted
  | (k, v) :: m, a => if k = a then v else Memory.cellAt m a

/-- A list of cells with the byte at one address replaced, kept in canonical form. -/
def Memory.putCell : Memory → Nat → Byte → Memory
  | [], a, v => if v = Memory.unlisted then [] else [(a, v)]
  | (k, w) :: m, a, v =>
    if k < a then (k, w) :: Memory.putCell m a v
    else if k = a then (if v = Memory.unlisted then m else (a, v) :: m)
    else if v = Memory.unlisted then (k, w) :: m else (a, v) :: (k, w) :: m

/-- The canonical form of memory: addresses strictly rising and inside the address space (20_memory.md R50), and no
entry equal to what an unlisted address reads as. -/
abbrev Memory.wf (m : Memory) : Prop :=
  m.Pairwise (fun x y => x.1 < y.1) ∧ ∀ x ∈ m, x.1 < Config.memSize ∧ x.2 ≠ Memory.unlisted

/-- The bus transaction `Read` (20_memory.md R52). -/
def Memory.read (m : Memory) (addr : Word) : Byte := Memory.cellAt m addr.toNat

/-- The bus transaction `Write` (20_memory.md R52). -/
def Memory.write (m : Memory) (addr : Word) (v : Byte) : Memory := Memory.putCell m addr.toNat v

/-- `MemRead(addr, 1)` (20_memory.md R52, R53): no side effect. -/
def State.memRead (s : State) (addr : Word) : Byte := s.mem.read addr

/-- `MemWrite(addr, 1, v)` (20_memory.md R52). -/
def State.memWrite (s : State) (addr : Word) (v : Byte) : State := { s with mem := s.mem.write addr v }

/-! ## Registers -/

/-- `x[r]` (00_scope.md R10, 10_state.md R20). -/
def State.reg (s : State) : Reg → Byte
  | .a => s.a
  | .f => s.f
  | .b => s.b
  | .c => s.c
  | .d => s.d
  | .e => s.e
  | .h => s.h
  | .l => s.l

/-- `x[r] <- v` (00_scope.md R10). No register is hardwired (10_state.md R20). -/
def State.setReg (s : State) (r : Reg) (v : Byte) : State :=
  match r with
  | .a => { s with a := v }
  | .f => { s with f := v }
  | .b => { s with b := v }
  | .c => { s with c := v }
  | .d => { s with d := v }
  | .e => { s with e := v }
  | .h => { s with h := v }
  | .l => { s with l := v }

/-- The 16-bit view of a pair, high register first (10_state.md R21; `ComposeAddress` of 40_operand_resolution.md R113). -/
def State.pair (s : State) (p : Pair) : Word := joinBytes (s.reg p.hi) (s.reg p.lo)

/-- `rr <- v` (00_scope.md R10). -/
def State.setPair (s : State) (p : Pair) (v : Word) : State := (s.setReg p.hi (hiByte v)).setReg p.lo (loByte v)

/-! ## Fetch -/

/-- The address after one, reduced as WRAP says (10_state.md R27, R29; 20_memory.md R67). -/
def addrNext (cfg : Params) (addr : Word) : Word :=
  match cfg.wrap with
  | .modulo65536 => addr + 1

/-- The address before one, reduced as WRAP says (10_state.md R29). -/
def addrPrev (cfg : Params) (addr : Word) : Word :=
  match cfg.wrap with
  | .modulo65536 => addr - 1

/-- `Fetch8()` (46_dispatch.md R240): the byte at `pc`, and the state with `pc` past it. -/
def fetch8 (s : State) (cfg : Params := params) : Byte × State := (s.memRead s.pc, { s with pc := addrNext cfg s.pc })

/-! ## Stack primitives -/

/-- `Push16(v)` (45_stack.md R220): post-decrement, high byte first. -/
def push16 (v : Word) (s : State) (cfg : Params := params) : State :=
  let s1 := s.memWrite s.sp (hiByte v)
  let s2 := { s1 with sp := addrPrev cfg s1.sp }
  let s3 := s2.memWrite s2.sp (loByte v)
  { s3 with sp := addrPrev cfg s3.sp }

/-- `Pop16()` (45_stack.md R222): pre-increment, low byte first; memory is not changed. -/
def pop16 (s : State) (cfg : Params := params) : Word × State :=
  let s1 := { s with sp := addrNext cfg s.sp }
  let lo := s1.memRead s1.sp
  let s2 := { s1 with sp := addrNext cfg s1.sp }
  let hi := s2.memRead s2.sp
  (joinBytes hi lo, s2)

/-! ## Faults -/

/-- The numeric code of a kind (60_exceptions.md R260, D16). -/
def faultCode (kind : FaultKind) (cfg : Params := params) : Nat :=
  match kind with
  | .invalidOpcode => cfg.codeInvalidOpcode
  | .notImplemented => cfg.codeNotImplemented
  | .invalidOperandMask => cfg.codeInvalidOperandMask

/-- `raise Fault(kind, opcode, addr, ext)` (60_exceptions.md R263): only `status` is written. -/
def raiseFault (kind : FaultKind) (opcode : Byte) (addr : Word) (ext : Bool) (s : State) : State :=
  { s with status := .faulted { kind := kind, opcode := opcode, addr := addr, ext := ext } }

/-- The fault of an unimplemented primary byte (46_dispatch.md R246). `pc` is one past the byte (R263), so the byte's own
address is `pc - 1` (log entry 6). -/
def unimplementedPrimary (op : Byte) (s : State) : State := raiseFault .notImplemented op (s.pc - 1) false s

/-- The fault of an unimplemented extended selector (46_dispatch.md R246): the record holds the selector and its address. -/
def unimplementedExtended (sel : Byte) (s : State) : State := raiseFault .notImplemented sel (s.pc - 1) true s

/-- The fault of an invalid primary byte (46_dispatch.md R247). -/
def invalidPrimary (op : Byte) (s : State) : State := raiseFault .invalidOpcode op (s.pc - 1) false s

/-- The host's `Reset()` (70_reset_and_hazards.md R290, R292, R293), the only way out of a fault (60_exceptions.md R267):
registers, `pc`, `sp` and `status` take their reset values and memory is kept. -/
def hostReset (s : State) : State := { State.reset with mem := s.mem }

end Sys2Proof.Machine
end

