-- ==== Sys2Proof/Machine/Flags.lean ====
section
/-! DEFINITION. The four flags (10_state.md R23) and every flag computation: the policies (42_alu_binary.md R154,
43_alu_unary.md R181), the carry detector (R156) and the half-carry of INC and DEC (R182). -/

namespace Sys2Proof.Machine

/-- `F.Z = x[F][7]`, at its position in the parameters (10_state.md R23). -/
def State.flagZ (s : State) (cfg : Params := params) : Bool := bitAt s.f cfg.zBit

/-- `F.N = x[F][6]`. -/
def State.flagN (s : State) (cfg : Params := params) : Bool := bitAt s.f cfg.nBit

/-- `F.H = x[F][5]`. -/
def State.flagH (s : State) (cfg : Params := params) : Bool := bitAt s.f cfg.hBit

/-- `F.C = x[F][4]`. -/
def State.flagC (s : State) (cfg : Params := params) : Bool := bitAt s.f cfg.cBit

/-- `F.Z <- x`; the other seven bits of F are unchanged (00_scope.md R10). -/
def State.setZ (s : State) (cfg : Params) (x : Bool) : State := { s with f := putBit s.f cfg.zBit x }

/-- `F.N <- x`. -/
def State.setN (s : State) (cfg : Params) (x : Bool) : State := { s with f := putBit s.f cfg.nBit x }

/-- `F.H <- x`. -/
def State.setH (s : State) (cfg : Params) (x : Bool) : State := { s with f := putBit s.f cfg.hBit x }

/-- `F.C <- x`. -/
def State.setC (s : State) (cfg : Params) (x : Bool) : State := { s with f := putBit s.f cfg.cBit x }

/-- The unconditional flag policy of a binary function (42_alu_binary.md R154). -/
def binaryPolicy (cfg : Params) (fn : AluFn) (s : State) : State :=
  match fn with
  | .add => s.setN cfg false
  | .adc => s.setN cfg false
  | .sub => s.setN cfg true
  | .sbc => s.setN cfg true
  | .and => ((s.setN cfg false).setC cfg false).setH cfg true
  | .xor => ((s.setN cfg false).setC cfg false).setH cfg false
  | .or => ((s.setN cfg false).setC cfg false).setH cfg false

/-- Whether a binary function has the carry detector as its conditional handler (42_alu_binary.md R155). -/
def hasCarryHandler : AluFn → Bool
  | .add => true
  | .adc => true
  | .sub => true
  | .sbc => true
  | .and => false
  | .xor => false
  | .or => false

/-- Whether a binary function takes the carry flag as an input (42_alu_binary.md R152): "ADD, SUB and the three bitwise functions
ignore `cin`", so the detector counts a carry-in for ADC and SBC at most (R158; log entry 1). -/
def usesCarryIn : AluFn → Bool
  | .adc => true
  | .sbc => true
  | .add => false
  | .sub => false
  | .and => false
  | .xor => false
  | .or => false

/-- The carry-bit vector `cb` of 42_alu_binary.md R156: `lhs`, `rhs` and the exact sum or difference as a 9-bit
two's-complement pattern, xored. `k` is the carry-in the detector counts, 0 or 1. -/
def carryVector (isSubtract : Bool) (lhs rhs : Byte) (k : Nat) : BitVec 9 :=
  let w : Int := if isSubtract then (lhs.toNat : Int) - rhs.toNat - k else (lhs.toNat : Int) + rhs.toNat + k
  lhs.zeroExtend 9 ^^^ rhs.zeroExtend 9 ^^^ BitVec.ofInt 9 w

/-- `DetectCarries(lhs, rhs, cin)` (42_alu_binary.md R156): it reads N, which the policy has already written (R157). -/
def detectCarries (cfg : Params) (lhs rhs : Byte) (cin : Bool) (s : State) : State :=
  let k : Nat := if cfg.carryInFlags && cin then 1 else 0
  let cb := carryVector (s.flagN cfg) lhs rhs k
  (s.setH cfg (cb.getLsbD 4)).setC cfg (cb.getLsbD 8)

/-- H of INC, from the operand before it (43_alu_unary.md R182, INCDEC_H). -/
def incHalfCarry (cfg : Params) (v : Byte) : Bool :=
  match cfg.incDecH with
  | .nibbleWrap => lowNibble v == 0xF

/-- H of DEC, from the operand before it (43_alu_unary.md R182, INCDEC_H). -/
def decHalfCarry (cfg : Params) (v : Byte) : Bool :=
  match cfg.incDecH with
  | .nibbleWrap => lowNibble v == 0x0

/-- The flag policy of a unary function, given the operand before the operation (43_alu_unary.md R181, R182): C is left
unchanged by INC and DEC. -/
def unaryPolicy (cfg : Params) (fn : UnaryFn) (v : Byte) (s : State) : State :=
  match fn with
  | .inc => (s.setN cfg false).setH cfg (incHalfCarry cfg v)
  | .dec => (s.setN cfg true).setH cfg (decHalfCarry cfg v)
  | .swap => ((s.setN cfg false).setH cfg false).setC cfg false

end Sys2Proof.Machine
end

