-- ==== Sys2Proof/Machine/Operands.lean ====
section
/-! DEFINITION. Operand resolution in the tagged form of 40_operand_resolution.md R118, used by every family. The mask form
of R110 to R117 stands in Machine/Masks.lean. -/

namespace Sys2Proof.Machine

/-- An operand specifier (R118): a byte register, or the memory byte a pair addresses. -/
inductive Operand where
  | reg (r : Reg)
  | mem (p : Pair)
  deriving DecidableEq, Repr

/-- The specifier of an operand slot (R118, 30_encoding.md R84). -/
def slotOperand : Slot → Operand
  | .reg r => .reg r.toReg
  | .memHl => .mem .hl

/-- `ReadOperand(s)` (R116, R118). -/
def readOperand (o : Operand) (s : State) : Byte :=
  match o with
  | .reg r => s.reg r
  | .mem p => s.memRead (s.pair p)

/-- `WriteOperand(s, v)` (R117, R118). -/
def writeOperand (o : Operand) (v : Byte) (s : State) : State :=
  match o with
  | .reg r => s.setReg r v
  | .mem p => s.memWrite (s.pair p) v

/-- `Move(dst, src)` (R115): `WriteOperand(dst, ReadOperand(src))`, the source read before the destination is written. R115 defines
three cases: register to register, memory to register, register to memory. From memory to memory it is "not defined", and no
instruction calls it so (41_loads.md R138). DESIGN CHOICE: this function is total, and on two memory operands copies the
byte; its mask form `moveMask` rejects them (log entry 10). Safe: no step reaches either. -/
def move (dst src : Operand) (s : State) : State := writeOperand dst (readOperand src s) s

/-- `LoadImmediate(reg)` (R114) on the byte already fetched: it takes one of the seven registers a load may name, never a
pair or F. -/
def loadImmediate (r : GReg) (n : Byte) (s : State) : State := s.setReg r.toReg n

end Sys2Proof.Machine
end

