-- ==== Sys2Proof/Machine/AluBinary.lean ====
section
/-! DEFINITION. The binary ALU (42_alu_binary.md R150 to R179): one pipeline, seven functions, three operand forms. -/

namespace Sys2Proof.Machine

/-- `op_fn(a, b, cin)` (R152), on bytes modulo 256. -/
def binaryFn (fn : AluFn) (a b : Byte) (cin : Bool) : Byte :=
  let k : Byte := if cin then 1 else 0
  match fn with
  | .add => a + b
  | .adc => a + b + k
  | .sub => a - b
  | .sbc => a - b - k
  | .and => a &&& b
  | .xor => a ^^^ b
  | .or => a ||| b

/-- `ExecuteBinary(fn, b)` (R150): the carry-in is read before any flag is written, and the policy writes N before the
detector reads it (R157). The detector is handed a carry-in by ADC and SBC only (R158; log entry 1). -/
def executeBinary (cfg : Params) (fn : AluFn) (b : Byte) (s : State) : State :=
  let a := s.a
  let cin := s.flagC cfg
  let res := binaryFn fn a b cin
  let s1 : State := { s with a := res }
  let s2 := s1.setZ cfg (res == 0)
  let s3 := binaryPolicy cfg fn s2
  if hasCarryHandler fn then detectCarries cfg a b (usesCarryIn fn && cin) s3 else s3

/-- `ExecuteBinary(fn, ReadOperand(o))` (R151): the right operand is resolved before A is written. -/
def binaryOn (cfg : Params) (fn : AluFn) (o : Operand) (s : State) : State := executeBinary cfg fn (readOperand o s) s

/-- `ADD A,B` (R159). -/
def execAddAB (s : State) : Result := .next (binaryOn params .add (.reg .b) s)

/-- `ADD A,C` (R159). -/
def execAddAC (s : State) : Result := .next (binaryOn params .add (.reg .c) s)

/-- `ADD A,D` (R159). -/
def execAddAD (s : State) : Result := .next (binaryOn params .add (.reg .d) s)

/-- `ADD A,E` (R159). -/
def execAddAE (s : State) : Result := .next (binaryOn params .add (.reg .e) s)

/-- `ADD A,H` (R159). -/
def execAddAH (s : State) : Result := .next (binaryOn params .add (.reg .h) s)

/-- `ADD A,L` (R159). -/
def execAddAL (s : State) : Result := .next (binaryOn params .add (.reg .l) s)

/-- `ADD A,(HL)` (R160). -/
def execAddAMemHl (s : State) : Result := .next (binaryOn params .add (.mem .hl) s)

/-- `ADD A,A` (R159). -/
def execAddAA (s : State) : Result := .next (binaryOn params .add (.reg .a) s)

/-- `ADC A,B` (R162). -/
def execAdcAB (s : State) : Result := .next (binaryOn params .adc (.reg .b) s)

/-- `ADC A,C` (R162). -/
def execAdcAC (s : State) : Result := .next (binaryOn params .adc (.reg .c) s)

/-- `ADC A,D` (R162). -/
def execAdcAD (s : State) : Result := .next (binaryOn params .adc (.reg .d) s)

/-- `ADC A,E` (R162). -/
def execAdcAE (s : State) : Result := .next (binaryOn params .adc (.reg .e) s)

/-- `ADC A,H` (R162). -/
def execAdcAH (s : State) : Result := .next (binaryOn params .adc (.reg .h) s)

/-- `ADC A,L` (R162). -/
def execAdcAL (s : State) : Result := .next (binaryOn params .adc (.reg .l) s)

/-- `ADC A,(HL)` (R163). -/
def execAdcAMemHl (s : State) : Result := .next (binaryOn params .adc (.mem .hl) s)

/-- `ADC A,A` (R162). -/
def execAdcAA (s : State) : Result := .next (binaryOn params .adc (.reg .a) s)

/-- `SUB A,B` (R165). -/
def execSubAB (s : State) : Result := .next (binaryOn params .sub (.reg .b) s)

/-- `SUB A,C` (R165). -/
def execSubAC (s : State) : Result := .next (binaryOn params .sub (.reg .c) s)

/-- `SUB A,D` (R165). -/
def execSubAD (s : State) : Result := .next (binaryOn params .sub (.reg .d) s)

/-- `SUB A,E` (R165). -/
def execSubAE (s : State) : Result := .next (binaryOn params .sub (.reg .e) s)

/-- `SUB A,H` (R165). -/
def execSubAH (s : State) : Result := .next (binaryOn params .sub (.reg .h) s)

/-- `SUB A,L` (R165). -/
def execSubAL (s : State) : Result := .next (binaryOn params .sub (.reg .l) s)

/-- `SUB A,(HL)` (R166). -/
def execSubAMemHl (s : State) : Result := .next (binaryOn params .sub (.mem .hl) s)

/-- `SUB A,A` (R165). -/
def execSubAA (s : State) : Result := .next (binaryOn params .sub (.reg .a) s)

/-- `SBC A,B` (R168). -/
def execSbcAB (s : State) : Result := .next (binaryOn params .sbc (.reg .b) s)

/-- `SBC A,C` (R168). -/
def execSbcAC (s : State) : Result := .next (binaryOn params .sbc (.reg .c) s)

/-- `SBC A,D` (R168). -/
def execSbcAD (s : State) : Result := .next (binaryOn params .sbc (.reg .d) s)

/-- `SBC A,E` (R168). -/
def execSbcAE (s : State) : Result := .next (binaryOn params .sbc (.reg .e) s)

/-- `SBC A,H` (R168). -/
def execSbcAH (s : State) : Result := .next (binaryOn params .sbc (.reg .h) s)

/-- `SBC A,L` (R168). -/
def execSbcAL (s : State) : Result := .next (binaryOn params .sbc (.reg .l) s)

/-- `SBC A,(HL)` (R169). -/
def execSbcAMemHl (s : State) : Result := .next (binaryOn params .sbc (.mem .hl) s)

/-- `SBC A,A` (R168). -/
def execSbcAA (s : State) : Result := .next (binaryOn params .sbc (.reg .a) s)

/-- `AND A,B` (R171). -/
def execAndAB (s : State) : Result := .next (binaryOn params .and (.reg .b) s)

/-- `AND A,C` (R171). -/
def execAndAC (s : State) : Result := .next (binaryOn params .and (.reg .c) s)

/-- `AND A,D` (R171). -/
def execAndAD (s : State) : Result := .next (binaryOn params .and (.reg .d) s)

/-- `AND A,E` (R171). -/
def execAndAE (s : State) : Result := .next (binaryOn params .and (.reg .e) s)

/-- `AND A,H` (R171). -/
def execAndAH (s : State) : Result := .next (binaryOn params .and (.reg .h) s)

/-- `AND A,L` (R171). -/
def execAndAL (s : State) : Result := .next (binaryOn params .and (.reg .l) s)

/-- `AND A,(HL)` (R172). -/
def execAndAMemHl (s : State) : Result := .next (binaryOn params .and (.mem .hl) s)

/-- `AND A,A` (R171). -/
def execAndAA (s : State) : Result := .next (binaryOn params .and (.reg .a) s)

/-- `XOR A,B` (R174). -/
def execXorAB (s : State) : Result := .next (binaryOn params .xor (.reg .b) s)

/-- `XOR A,C` (R174). -/
def execXorAC (s : State) : Result := .next (binaryOn params .xor (.reg .c) s)

/-- `XOR A,D` (R174). -/
def execXorAD (s : State) : Result := .next (binaryOn params .xor (.reg .d) s)

/-- `XOR A,E` (R174). -/
def execXorAE (s : State) : Result := .next (binaryOn params .xor (.reg .e) s)

/-- `XOR A,H` (R174). -/
def execXorAH (s : State) : Result := .next (binaryOn params .xor (.reg .h) s)

/-- `XOR A,L` (R174). -/
def execXorAL (s : State) : Result := .next (binaryOn params .xor (.reg .l) s)

/-- `XOR A,(HL)` (R175). -/
def execXorAMemHl (s : State) : Result := .next (binaryOn params .xor (.mem .hl) s)

/-- `XOR A,A` (R174). -/
def execXorAA (s : State) : Result := .next (binaryOn params .xor (.reg .a) s)

/-- `OR A,B` (R177). -/
def execOrAB (s : State) : Result := .next (binaryOn params .or (.reg .b) s)

/-- `OR A,C` (R177). -/
def execOrAC (s : State) : Result := .next (binaryOn params .or (.reg .c) s)

/-- `OR A,D` (R177). -/
def execOrAD (s : State) : Result := .next (binaryOn params .or (.reg .d) s)

/-- `OR A,E` (R177). -/
def execOrAE (s : State) : Result := .next (binaryOn params .or (.reg .e) s)

/-- `OR A,H` (R177). -/
def execOrAH (s : State) : Result := .next (binaryOn params .or (.reg .h) s)

/-- `OR A,L` (R177). -/
def execOrAL (s : State) : Result := .next (binaryOn params .or (.reg .l) s)

/-- `OR A,(HL)` (R178). -/
def execOrAMemHl (s : State) : Result := .next (binaryOn params .or (.mem .hl) s)

/-- `OR A,A` (R177). -/
def execOrAA (s : State) : Result := .next (binaryOn params .or (.reg .a) s)

/-- `ADD A,n` (R161). -/
def execAddAN (n : Byte) (s : State) : Result := .next (executeBinary params .add n s)

/-- `ADC A,n` (R164). -/
def execAdcAN (n : Byte) (s : State) : Result := .next (executeBinary params .adc n s)

/-- `SUB A,n` (R167). -/
def execSubAN (n : Byte) (s : State) : Result := .next (executeBinary params .sub n s)

/-- `SBC A,n` (R170). -/
def execSbcAN (n : Byte) (s : State) : Result := .next (executeBinary params .sbc n s)

/-- `AND A,n` (R173). -/
def execAndAN (n : Byte) (s : State) : Result := .next (executeBinary params .and n s)

/-- `XOR A,n` (R176). -/
def execXorAN (n : Byte) (s : State) : Result := .next (executeBinary params .xor n s)

/-- `OR A,n` (R179). -/
def execOrAN (n : Byte) (s : State) : Result := .next (executeBinary params .or n s)

end Sys2Proof.Machine
end

