-- ==== Sys2Proof/Machine/AluUnary.lean ====
section
/-! DEFINITION. The unary ALU (43_alu_unary.md R180 to R188). -/

namespace Sys2Proof.Machine

/-- The result of a unary function (R180). -/
def unaryOp (fn : UnaryFn) (v : Byte) : Byte :=
  match fn with
  | .inc => v + 1
  | .dec => v - 1
  | .swap => swapNibbles v

/-- `ExecuteUnary(fn, s)` (R180): read, write back to the same location, Zero, policy. -/
def executeUnary (cfg : Params) (fn : UnaryFn) (o : Operand) (s : State) : State :=
  let v := readOperand o s
  let res := unaryOp fn v
  let s1 := writeOperand o res s
  let s2 := s1.setZ cfg (res == 0)
  unaryPolicy cfg fn v s2

/-- `INC B` (R183). -/
def execIncB (s : State) : Result := .next (executeUnary params .inc (.reg .b) s)

/-- `DEC B` (R185). -/
def execDecB (s : State) : Result := .next (executeUnary params .dec (.reg .b) s)

/-- `INC C` (R183). -/
def execIncC (s : State) : Result := .next (executeUnary params .inc (.reg .c) s)

/-- `DEC C` (R185). -/
def execDecC (s : State) : Result := .next (executeUnary params .dec (.reg .c) s)

/-- `INC D` (R183). -/
def execIncD (s : State) : Result := .next (executeUnary params .inc (.reg .d) s)

/-- `DEC D` (R185). -/
def execDecD (s : State) : Result := .next (executeUnary params .dec (.reg .d) s)

/-- `INC E` (R183). -/
def execIncE (s : State) : Result := .next (executeUnary params .inc (.reg .e) s)

/-- `DEC E` (R185). -/
def execDecE (s : State) : Result := .next (executeUnary params .dec (.reg .e) s)

/-- `INC H` (R183). -/
def execIncH (s : State) : Result := .next (executeUnary params .inc (.reg .h) s)

/-- `DEC H` (R185). -/
def execDecH (s : State) : Result := .next (executeUnary params .dec (.reg .h) s)

/-- `INC L` (R183). -/
def execIncL (s : State) : Result := .next (executeUnary params .inc (.reg .l) s)

/-- `DEC L` (R185). -/
def execDecL (s : State) : Result := .next (executeUnary params .dec (.reg .l) s)

/-- `INC (HL)` (R184). -/
def execIncMemHl (s : State) : Result := .next (executeUnary params .inc (.mem .hl) s)

/-- `DEC (HL)` (R186). -/
def execDecMemHl (s : State) : Result := .next (executeUnary params .dec (.mem .hl) s)

/-- `INC A` (R183). -/
def execIncA (s : State) : Result := .next (executeUnary params .inc (.reg .a) s)

/-- `DEC A` (R185). -/
def execDecA (s : State) : Result := .next (executeUnary params .dec (.reg .a) s)

/-- `SWAP B` (R187). -/
def execSwapB (s : State) : Result := .next (executeUnary params .swap (.reg .b) s)

/-- `SWAP C` (R187). -/
def execSwapC (s : State) : Result := .next (executeUnary params .swap (.reg .c) s)

/-- `SWAP D` (R187). -/
def execSwapD (s : State) : Result := .next (executeUnary params .swap (.reg .d) s)

/-- `SWAP E` (R187). -/
def execSwapE (s : State) : Result := .next (executeUnary params .swap (.reg .e) s)

/-- `SWAP H` (R187). -/
def execSwapH (s : State) : Result := .next (executeUnary params .swap (.reg .h) s)

/-- `SWAP L` (R187). -/
def execSwapL (s : State) : Result := .next (executeUnary params .swap (.reg .l) s)

/-- `SWAP (HL)` (R188). -/
def execSwapMemHl (s : State) : Result := .next (executeUnary params .swap (.mem .hl) s)

/-- `SWAP A` (R187). -/
def execSwapA (s : State) : Result := .next (executeUnary params .swap (.reg .a) s)

end Sys2Proof.Machine
end

