-- ==== Sys2Proof/Machine/BitOps.lean ====
section
/-! DEFINITION. The bit engine (44_bit_ops.md R200 to R209). The bit mask is `1 << b` with `b` the 3-bit field (R203). -/

namespace Sys2Proof.Machine

/-- `TestBit(s, b)` (R200): Z is the complement of the bit, N cleared, H set, C unchanged, and nothing written back (DESIGN
CHOICE of the spec, D27: log entry 23). -/
def testBit (cfg : Params) (o : Operand) (b : Oct) (s : State) : State :=
  let v := readOperand o s
  ((s.setZ cfg (!bitAt v b.toNat)).setN cfg false).setH cfg true

/-- `SetBit(s, b)` (R201): no flag; the operand is always written back (DESIGN CHOICE of the spec, D27: log entry 23). -/
def setBit (o : Operand) (b : Oct) (s : State) : State := writeOperand o (readOperand o s ||| bitMask b.toNat) s

/-- `ResetBit(s, b)` (R202): no flag; the operand is always written back (D27: log entry 23). -/
def resetBit (o : Operand) (b : Oct) (s : State) : State := writeOperand o (readOperand o s &&& ~~~(bitMask b.toNat)) s

/-- `BIT 0,B` (R204). -/
def execBit0B (s : State) : Result := .next (testBit params (.reg .b) .o0 s)

/-- `BIT 0,C` (R204). -/
def execBit0C (s : State) : Result := .next (testBit params (.reg .c) .o0 s)

/-- `BIT 0,D` (R204). -/
def execBit0D (s : State) : Result := .next (testBit params (.reg .d) .o0 s)

/-- `BIT 0,E` (R204). -/
def execBit0E (s : State) : Result := .next (testBit params (.reg .e) .o0 s)

/-- `BIT 0,H` (R204). -/
def execBit0H (s : State) : Result := .next (testBit params (.reg .h) .o0 s)

/-- `BIT 0,L` (R204). -/
def execBit0L (s : State) : Result := .next (testBit params (.reg .l) .o0 s)

/-- `BIT 0,(HL)` (R205). -/
def execBit0MemHl (s : State) : Result := .next (testBit params (.mem .hl) .o0 s)

/-- `BIT 0,A` (R204). -/
def execBit0A (s : State) : Result := .next (testBit params (.reg .a) .o0 s)

/-- `BIT 1,B` (R204). -/
def execBit1B (s : State) : Result := .next (testBit params (.reg .b) .o1 s)

/-- `BIT 1,C` (R204). -/
def execBit1C (s : State) : Result := .next (testBit params (.reg .c) .o1 s)

/-- `BIT 1,D` (R204). -/
def execBit1D (s : State) : Result := .next (testBit params (.reg .d) .o1 s)

/-- `BIT 1,E` (R204). -/
def execBit1E (s : State) : Result := .next (testBit params (.reg .e) .o1 s)

/-- `BIT 1,H` (R204). -/
def execBit1H (s : State) : Result := .next (testBit params (.reg .h) .o1 s)

/-- `BIT 1,L` (R204). -/
def execBit1L (s : State) : Result := .next (testBit params (.reg .l) .o1 s)

/-- `BIT 1,(HL)` (R205). -/
def execBit1MemHl (s : State) : Result := .next (testBit params (.mem .hl) .o1 s)

/-- `BIT 1,A` (R204). -/
def execBit1A (s : State) : Result := .next (testBit params (.reg .a) .o1 s)

/-- `BIT 2,B` (R204). -/
def execBit2B (s : State) : Result := .next (testBit params (.reg .b) .o2 s)

/-- `BIT 2,C` (R204). -/
def execBit2C (s : State) : Result := .next (testBit params (.reg .c) .o2 s)

/-- `BIT 2,D` (R204). -/
def execBit2D (s : State) : Result := .next (testBit params (.reg .d) .o2 s)

/-- `BIT 2,E` (R204). -/
def execBit2E (s : State) : Result := .next (testBit params (.reg .e) .o2 s)

/-- `BIT 2,H` (R204). -/
def execBit2H (s : State) : Result := .next (testBit params (.reg .h) .o2 s)

/-- `BIT 2,L` (R204). -/
def execBit2L (s : State) : Result := .next (testBit params (.reg .l) .o2 s)

/-- `BIT 2,(HL)` (R205). -/
def execBit2MemHl (s : State) : Result := .next (testBit params (.mem .hl) .o2 s)

/-- `BIT 2,A` (R204). -/
def execBit2A (s : State) : Result := .next (testBit params (.reg .a) .o2 s)

/-- `BIT 3,B` (R204). -/
def execBit3B (s : State) : Result := .next (testBit params (.reg .b) .o3 s)

/-- `BIT 3,C` (R204). -/
def execBit3C (s : State) : Result := .next (testBit params (.reg .c) .o3 s)

/-- `BIT 3,D` (R204). -/
def execBit3D (s : State) : Result := .next (testBit params (.reg .d) .o3 s)

/-- `BIT 3,E` (R204). -/
def execBit3E (s : State) : Result := .next (testBit params (.reg .e) .o3 s)

/-- `BIT 3,H` (R204). -/
def execBit3H (s : State) : Result := .next (testBit params (.reg .h) .o3 s)

/-- `BIT 3,L` (R204). -/
def execBit3L (s : State) : Result := .next (testBit params (.reg .l) .o3 s)

/-- `BIT 3,(HL)` (R205). -/
def execBit3MemHl (s : State) : Result := .next (testBit params (.mem .hl) .o3 s)

/-- `BIT 3,A` (R204). -/
def execBit3A (s : State) : Result := .next (testBit params (.reg .a) .o3 s)

/-- `BIT 4,B` (R204). -/
def execBit4B (s : State) : Result := .next (testBit params (.reg .b) .o4 s)

/-- `BIT 4,C` (R204). -/
def execBit4C (s : State) : Result := .next (testBit params (.reg .c) .o4 s)

/-- `BIT 4,D` (R204). -/
def execBit4D (s : State) : Result := .next (testBit params (.reg .d) .o4 s)

/-- `BIT 4,E` (R204). -/
def execBit4E (s : State) : Result := .next (testBit params (.reg .e) .o4 s)

/-- `BIT 4,H` (R204). -/
def execBit4H (s : State) : Result := .next (testBit params (.reg .h) .o4 s)

/-- `BIT 4,L` (R204). -/
def execBit4L (s : State) : Result := .next (testBit params (.reg .l) .o4 s)

/-- `BIT 4,(HL)` (R205). -/
def execBit4MemHl (s : State) : Result := .next (testBit params (.mem .hl) .o4 s)

/-- `BIT 4,A` (R204). -/
def execBit4A (s : State) : Result := .next (testBit params (.reg .a) .o4 s)

/-- `BIT 5,B` (R204). -/
def execBit5B (s : State) : Result := .next (testBit params (.reg .b) .o5 s)

/-- `BIT 5,C` (R204). -/
def execBit5C (s : State) : Result := .next (testBit params (.reg .c) .o5 s)

/-- `BIT 5,D` (R204). -/
def execBit5D (s : State) : Result := .next (testBit params (.reg .d) .o5 s)

/-- `BIT 5,E` (R204). -/
def execBit5E (s : State) : Result := .next (testBit params (.reg .e) .o5 s)

/-- `BIT 5,H` (R204). -/
def execBit5H (s : State) : Result := .next (testBit params (.reg .h) .o5 s)

/-- `BIT 5,L` (R204). -/
def execBit5L (s : State) : Result := .next (testBit params (.reg .l) .o5 s)

/-- `BIT 5,(HL)` (R205). -/
def execBit5MemHl (s : State) : Result := .next (testBit params (.mem .hl) .o5 s)

/-- `BIT 5,A` (R204). -/
def execBit5A (s : State) : Result := .next (testBit params (.reg .a) .o5 s)

/-- `BIT 6,B` (R204). -/
def execBit6B (s : State) : Result := .next (testBit params (.reg .b) .o6 s)

/-- `BIT 6,C` (R204). -/
def execBit6C (s : State) : Result := .next (testBit params (.reg .c) .o6 s)

/-- `BIT 6,D` (R204). -/
def execBit6D (s : State) : Result := .next (testBit params (.reg .d) .o6 s)

/-- `BIT 6,E` (R204). -/
def execBit6E (s : State) : Result := .next (testBit params (.reg .e) .o6 s)

/-- `BIT 6,H` (R204). -/
def execBit6H (s : State) : Result := .next (testBit params (.reg .h) .o6 s)

/-- `BIT 6,L` (R204). -/
def execBit6L (s : State) : Result := .next (testBit params (.reg .l) .o6 s)

/-- `BIT 6,(HL)` (R205). -/
def execBit6MemHl (s : State) : Result := .next (testBit params (.mem .hl) .o6 s)

/-- `BIT 6,A` (R204). -/
def execBit6A (s : State) : Result := .next (testBit params (.reg .a) .o6 s)

/-- `BIT 7,B` (R204). -/
def execBit7B (s : State) : Result := .next (testBit params (.reg .b) .o7 s)

/-- `BIT 7,C` (R204). -/
def execBit7C (s : State) : Result := .next (testBit params (.reg .c) .o7 s)

/-- `BIT 7,D` (R204). -/
def execBit7D (s : State) : Result := .next (testBit params (.reg .d) .o7 s)

/-- `BIT 7,E` (R204). -/
def execBit7E (s : State) : Result := .next (testBit params (.reg .e) .o7 s)

/-- `BIT 7,H` (R204). -/
def execBit7H (s : State) : Result := .next (testBit params (.reg .h) .o7 s)

/-- `BIT 7,L` (R204). -/
def execBit7L (s : State) : Result := .next (testBit params (.reg .l) .o7 s)

/-- `BIT 7,(HL)` (R205). -/
def execBit7MemHl (s : State) : Result := .next (testBit params (.mem .hl) .o7 s)

/-- `BIT 7,A` (R204). -/
def execBit7A (s : State) : Result := .next (testBit params (.reg .a) .o7 s)

/-- `RES 0,B` (R206). -/
def execRes0B (s : State) : Result := .next (resetBit (.reg .b) .o0 s)

/-- `RES 0,C` (R206). -/
def execRes0C (s : State) : Result := .next (resetBit (.reg .c) .o0 s)

/-- `RES 0,D` (R206). -/
def execRes0D (s : State) : Result := .next (resetBit (.reg .d) .o0 s)

/-- `RES 0,E` (R206). -/
def execRes0E (s : State) : Result := .next (resetBit (.reg .e) .o0 s)

/-- `RES 0,H` (R206). -/
def execRes0H (s : State) : Result := .next (resetBit (.reg .h) .o0 s)

/-- `RES 0,L` (R206). -/
def execRes0L (s : State) : Result := .next (resetBit (.reg .l) .o0 s)

/-- `RES 0,(HL)` (R207). -/
def execRes0MemHl (s : State) : Result := .next (resetBit (.mem .hl) .o0 s)

/-- `RES 0,A` (R206). -/
def execRes0A (s : State) : Result := .next (resetBit (.reg .a) .o0 s)

/-- `RES 1,B` (R206). -/
def execRes1B (s : State) : Result := .next (resetBit (.reg .b) .o1 s)

/-- `RES 1,C` (R206). -/
def execRes1C (s : State) : Result := .next (resetBit (.reg .c) .o1 s)

/-- `RES 1,D` (R206). -/
def execRes1D (s : State) : Result := .next (resetBit (.reg .d) .o1 s)

/-- `RES 1,E` (R206). -/
def execRes1E (s : State) : Result := .next (resetBit (.reg .e) .o1 s)

/-- `RES 1,H` (R206). -/
def execRes1H (s : State) : Result := .next (resetBit (.reg .h) .o1 s)

/-- `RES 1,L` (R206). -/
def execRes1L (s : State) : Result := .next (resetBit (.reg .l) .o1 s)

/-- `RES 1,(HL)` (R207). -/
def execRes1MemHl (s : State) : Result := .next (resetBit (.mem .hl) .o1 s)

/-- `RES 1,A` (R206). -/
def execRes1A (s : State) : Result := .next (resetBit (.reg .a) .o1 s)

/-- `RES 2,B` (R206). -/
def execRes2B (s : State) : Result := .next (resetBit (.reg .b) .o2 s)

/-- `RES 2,C` (R206). -/
def execRes2C (s : State) : Result := .next (resetBit (.reg .c) .o2 s)

/-- `RES 2,D` (R206). -/
def execRes2D (s : State) : Result := .next (resetBit (.reg .d) .o2 s)

/-- `RES 2,E` (R206). -/
def execRes2E (s : State) : Result := .next (resetBit (.reg .e) .o2 s)

/-- `RES 2,H` (R206). -/
def execRes2H (s : State) : Result := .next (resetBit (.reg .h) .o2 s)

/-- `RES 2,L` (R206). -/
def execRes2L (s : State) : Result := .next (resetBit (.reg .l) .o2 s)

/-- `RES 2,(HL)` (R207). -/
def execRes2MemHl (s : State) : Result := .next (resetBit (.mem .hl) .o2 s)

/-- `RES 2,A` (R206). -/
def execRes2A (s : State) : Result := .next (resetBit (.reg .a) .o2 s)

/-- `RES 3,B` (R206). -/
def execRes3B (s : State) : Result := .next (resetBit (.reg .b) .o3 s)

/-- `RES 3,C` (R206). -/
def execRes3C (s : State) : Result := .next (resetBit (.reg .c) .o3 s)

/-- `RES 3,D` (R206). -/
def execRes3D (s : State) : Result := .next (resetBit (.reg .d) .o3 s)

/-- `RES 3,E` (R206). -/
def execRes3E (s : State) : Result := .next (resetBit (.reg .e) .o3 s)

/-- `RES 3,H` (R206). -/
def execRes3H (s : State) : Result := .next (resetBit (.reg .h) .o3 s)

/-- `RES 3,L` (R206). -/
def execRes3L (s : State) : Result := .next (resetBit (.reg .l) .o3 s)

/-- `RES 3,(HL)` (R207). -/
def execRes3MemHl (s : State) : Result := .next (resetBit (.mem .hl) .o3 s)

/-- `RES 3,A` (R206). -/
def execRes3A (s : State) : Result := .next (resetBit (.reg .a) .o3 s)

/-- `RES 4,B` (R206). -/
def execRes4B (s : State) : Result := .next (resetBit (.reg .b) .o4 s)

/-- `RES 4,C` (R206). -/
def execRes4C (s : State) : Result := .next (resetBit (.reg .c) .o4 s)

/-- `RES 4,D` (R206). -/
def execRes4D (s : State) : Result := .next (resetBit (.reg .d) .o4 s)

/-- `RES 4,E` (R206). -/
def execRes4E (s : State) : Result := .next (resetBit (.reg .e) .o4 s)

/-- `RES 4,H` (R206). -/
def execRes4H (s : State) : Result := .next (resetBit (.reg .h) .o4 s)

/-- `RES 4,L` (R206). -/
def execRes4L (s : State) : Result := .next (resetBit (.reg .l) .o4 s)

/-- `RES 4,(HL)` (R207). -/
def execRes4MemHl (s : State) : Result := .next (resetBit (.mem .hl) .o4 s)

/-- `RES 4,A` (R206). -/
def execRes4A (s : State) : Result := .next (resetBit (.reg .a) .o4 s)

/-- `RES 5,B` (R206). -/
def execRes5B (s : State) : Result := .next (resetBit (.reg .b) .o5 s)

/-- `RES 5,C` (R206). -/
def execRes5C (s : State) : Result := .next (resetBit (.reg .c) .o5 s)

/-- `RES 5,D` (R206). -/
def execRes5D (s : State) : Result := .next (resetBit (.reg .d) .o5 s)

/-- `RES 5,E` (R206). -/
def execRes5E (s : State) : Result := .next (resetBit (.reg .e) .o5 s)

/-- `RES 5,H` (R206). -/
def execRes5H (s : State) : Result := .next (resetBit (.reg .h) .o5 s)

/-- `RES 5,L` (R206). -/
def execRes5L (s : State) : Result := .next (resetBit (.reg .l) .o5 s)

/-- `RES 5,(HL)` (R207). -/
def execRes5MemHl (s : State) : Result := .next (resetBit (.mem .hl) .o5 s)

/-- `RES 5,A` (R206). -/
def execRes5A (s : State) : Result := .next (resetBit (.reg .a) .o5 s)

/-- `RES 6,B` (R206). -/
def execRes6B (s : State) : Result := .next (resetBit (.reg .b) .o6 s)

/-- `RES 6,C` (R206). -/
def execRes6C (s : State) : Result := .next (resetBit (.reg .c) .o6 s)

/-- `RES 6,D` (R206). -/
def execRes6D (s : State) : Result := .next (resetBit (.reg .d) .o6 s)

/-- `RES 6,E` (R206). -/
def execRes6E (s : State) : Result := .next (resetBit (.reg .e) .o6 s)

/-- `RES 6,H` (R206). -/
def execRes6H (s : State) : Result := .next (resetBit (.reg .h) .o6 s)

/-- `RES 6,L` (R206). -/
def execRes6L (s : State) : Result := .next (resetBit (.reg .l) .o6 s)

/-- `RES 6,(HL)` (R207). -/
def execRes6MemHl (s : State) : Result := .next (resetBit (.mem .hl) .o6 s)

/-- `RES 6,A` (R206). -/
def execRes6A (s : State) : Result := .next (resetBit (.reg .a) .o6 s)

/-- `RES 7,B` (R206). -/
def execRes7B (s : State) : Result := .next (resetBit (.reg .b) .o7 s)

/-- `RES 7,C` (R206). -/
def execRes7C (s : State) : Result := .next (resetBit (.reg .c) .o7 s)

/-- `RES 7,D` (R206). -/
def execRes7D (s : State) : Result := .next (resetBit (.reg .d) .o7 s)

/-- `RES 7,E` (R206). -/
def execRes7E (s : State) : Result := .next (resetBit (.reg .e) .o7 s)

/-- `RES 7,H` (R206). -/
def execRes7H (s : State) : Result := .next (resetBit (.reg .h) .o7 s)

/-- `RES 7,L` (R206). -/
def execRes7L (s : State) : Result := .next (resetBit (.reg .l) .o7 s)

/-- `RES 7,(HL)` (R207). -/
def execRes7MemHl (s : State) : Result := .next (resetBit (.mem .hl) .o7 s)

/-- `RES 7,A` (R206). -/
def execRes7A (s : State) : Result := .next (resetBit (.reg .a) .o7 s)

/-- `SET 0,B` (R208). -/
def execSet0B (s : State) : Result := .next (setBit (.reg .b) .o0 s)

/-- `SET 0,C` (R208). -/
def execSet0C (s : State) : Result := .next (setBit (.reg .c) .o0 s)

/-- `SET 0,D` (R208). -/
def execSet0D (s : State) : Result := .next (setBit (.reg .d) .o0 s)

/-- `SET 0,E` (R208). -/
def execSet0E (s : State) : Result := .next (setBit (.reg .e) .o0 s)

/-- `SET 0,H` (R208). -/
def execSet0H (s : State) : Result := .next (setBit (.reg .h) .o0 s)

/-- `SET 0,L` (R208). -/
def execSet0L (s : State) : Result := .next (setBit (.reg .l) .o0 s)

/-- `SET 0,(HL)` (R209). -/
def execSet0MemHl (s : State) : Result := .next (setBit (.mem .hl) .o0 s)

/-- `SET 0,A` (R208). -/
def execSet0A (s : State) : Result := .next (setBit (.reg .a) .o0 s)

/-- `SET 1,B` (R208). -/
def execSet1B (s : State) : Result := .next (setBit (.reg .b) .o1 s)

/-- `SET 1,C` (R208). -/
def execSet1C (s : State) : Result := .next (setBit (.reg .c) .o1 s)

/-- `SET 1,D` (R208). -/
def execSet1D (s : State) : Result := .next (setBit (.reg .d) .o1 s)

/-- `SET 1,E` (R208). -/
def execSet1E (s : State) : Result := .next (setBit (.reg .e) .o1 s)

/-- `SET 1,H` (R208). -/
def execSet1H (s : State) : Result := .next (setBit (.reg .h) .o1 s)

/-- `SET 1,L` (R208). -/
def execSet1L (s : State) : Result := .next (setBit (.reg .l) .o1 s)

/-- `SET 1,(HL)` (R209). -/
def execSet1MemHl (s : State) : Result := .next (setBit (.mem .hl) .o1 s)

/-- `SET 1,A` (R208). -/
def execSet1A (s : State) : Result := .next (setBit (.reg .a) .o1 s)

/-- `SET 2,B` (R208). -/
def execSet2B (s : State) : Result := .next (setBit (.reg .b) .o2 s)

/-- `SET 2,C` (R208). -/
def execSet2C (s : State) : Result := .next (setBit (.reg .c) .o2 s)

/-- `SET 2,D` (R208). -/
def execSet2D (s : State) : Result := .next (setBit (.reg .d) .o2 s)

/-- `SET 2,E` (R208). -/
def execSet2E (s : State) : Result := .next (setBit (.reg .e) .o2 s)

/-- `SET 2,H` (R208). -/
def execSet2H (s : State) : Result := .next (setBit (.reg .h) .o2 s)

/-- `SET 2,L` (R208). -/
def execSet2L (s : State) : Result := .next (setBit (.reg .l) .o2 s)

/-- `SET 2,(HL)` (R209). -/
def execSet2MemHl (s : State) : Result := .next (setBit (.mem .hl) .o2 s)

/-- `SET 2,A` (R208). -/
def execSet2A (s : State) : Result := .next (setBit (.reg .a) .o2 s)

/-- `SET 3,B` (R208). -/
def execSet3B (s : State) : Result := .next (setBit (.reg .b) .o3 s)

/-- `SET 3,C` (R208). -/
def execSet3C (s : State) : Result := .next (setBit (.reg .c) .o3 s)

/-- `SET 3,D` (R208). -/
def execSet3D (s : State) : Result := .next (setBit (.reg .d) .o3 s)

/-- `SET 3,E` (R208). -/
def execSet3E (s : State) : Result := .next (setBit (.reg .e) .o3 s)

/-- `SET 3,H` (R208). -/
def execSet3H (s : State) : Result := .next (setBit (.reg .h) .o3 s)

/-- `SET 3,L` (R208). -/
def execSet3L (s : State) : Result := .next (setBit (.reg .l) .o3 s)

/-- `SET 3,(HL)` (R209). -/
def execSet3MemHl (s : State) : Result := .next (setBit (.mem .hl) .o3 s)

/-- `SET 3,A` (R208). -/
def execSet3A (s : State) : Result := .next (setBit (.reg .a) .o3 s)

/-- `SET 4,B` (R208). -/
def execSet4B (s : State) : Result := .next (setBit (.reg .b) .o4 s)

/-- `SET 4,C` (R208). -/
def execSet4C (s : State) : Result := .next (setBit (.reg .c) .o4 s)

/-- `SET 4,D` (R208). -/
def execSet4D (s : State) : Result := .next (setBit (.reg .d) .o4 s)

/-- `SET 4,E` (R208). -/
def execSet4E (s : State) : Result := .next (setBit (.reg .e) .o4 s)

/-- `SET 4,H` (R208). -/
def execSet4H (s : State) : Result := .next (setBit (.reg .h) .o4 s)

/-- `SET 4,L` (R208). -/
def execSet4L (s : State) : Result := .next (setBit (.reg .l) .o4 s)

/-- `SET 4,(HL)` (R209). -/
def execSet4MemHl (s : State) : Result := .next (setBit (.mem .hl) .o4 s)

/-- `SET 4,A` (R208). -/
def execSet4A (s : State) : Result := .next (setBit (.reg .a) .o4 s)

/-- `SET 5,B` (R208). -/
def execSet5B (s : State) : Result := .next (setBit (.reg .b) .o5 s)

/-- `SET 5,C` (R208). -/
def execSet5C (s : State) : Result := .next (setBit (.reg .c) .o5 s)

/-- `SET 5,D` (R208). -/
def execSet5D (s : State) : Result := .next (setBit (.reg .d) .o5 s)

/-- `SET 5,E` (R208). -/
def execSet5E (s : State) : Result := .next (setBit (.reg .e) .o5 s)

/-- `SET 5,H` (R208). -/
def execSet5H (s : State) : Result := .next (setBit (.reg .h) .o5 s)

/-- `SET 5,L` (R208). -/
def execSet5L (s : State) : Result := .next (setBit (.reg .l) .o5 s)

/-- `SET 5,(HL)` (R209). -/
def execSet5MemHl (s : State) : Result := .next (setBit (.mem .hl) .o5 s)

/-- `SET 5,A` (R208). -/
def execSet5A (s : State) : Result := .next (setBit (.reg .a) .o5 s)

/-- `SET 6,B` (R208). -/
def execSet6B (s : State) : Result := .next (setBit (.reg .b) .o6 s)

/-- `SET 6,C` (R208). -/
def execSet6C (s : State) : Result := .next (setBit (.reg .c) .o6 s)

/-- `SET 6,D` (R208). -/
def execSet6D (s : State) : Result := .next (setBit (.reg .d) .o6 s)

/-- `SET 6,E` (R208). -/
def execSet6E (s : State) : Result := .next (setBit (.reg .e) .o6 s)

/-- `SET 6,H` (R208). -/
def execSet6H (s : State) : Result := .next (setBit (.reg .h) .o6 s)

/-- `SET 6,L` (R208). -/
def execSet6L (s : State) : Result := .next (setBit (.reg .l) .o6 s)

/-- `SET 6,(HL)` (R209). -/
def execSet6MemHl (s : State) : Result := .next (setBit (.mem .hl) .o6 s)

/-- `SET 6,A` (R208). -/
def execSet6A (s : State) : Result := .next (setBit (.reg .a) .o6 s)

/-- `SET 7,B` (R208). -/
def execSet7B (s : State) : Result := .next (setBit (.reg .b) .o7 s)

/-- `SET 7,C` (R208). -/
def execSet7C (s : State) : Result := .next (setBit (.reg .c) .o7 s)

/-- `SET 7,D` (R208). -/
def execSet7D (s : State) : Result := .next (setBit (.reg .d) .o7 s)

/-- `SET 7,E` (R208). -/
def execSet7E (s : State) : Result := .next (setBit (.reg .e) .o7 s)

/-- `SET 7,H` (R208). -/
def execSet7H (s : State) : Result := .next (setBit (.reg .h) .o7 s)

/-- `SET 7,L` (R208). -/
def execSet7L (s : State) : Result := .next (setBit (.reg .l) .o7 s)

/-- `SET 7,(HL)` (R209). -/
def execSet7MemHl (s : State) : Result := .next (setBit (.mem .hl) .o7 s)

/-- `SET 7,A` (R208). -/
def execSet7A (s : State) : Result := .next (setBit (.reg .a) .o7 s)

end Sys2Proof.Machine
end

