-- ==== Sys2Proof/Machine/Loads.lean ====
section
/-! DEFINITION. Loads and moves (41_loads.md R130 to R137). Each is `loadImmediate` or `move` (40_operand_resolution.md R114,
R115); none writes a flag. -/

namespace Sys2Proof.Machine

/-- `LD (BC),A` (R136). -/
def execLdMemBcA (s : State) : Result := .next (move (.mem .bc) (.reg .a) s)

/-- `LD B,n` (R130). -/
def execLdBN (n : Byte) (s : State) : Result := .next (loadImmediate .b n s)

/-- `LD A,(BC)` (R134). -/
def execLdAMemBc (s : State) : Result := .next (move (.reg .a) (.mem .bc) s)

/-- `LD C,n` (R130). -/
def execLdCN (n : Byte) (s : State) : Result := .next (loadImmediate .c n s)

/-- `LD (DE),A` (R137). -/
def execLdMemDeA (s : State) : Result := .next (move (.mem .de) (.reg .a) s)

/-- `LD D,n` (R130). -/
def execLdDN (n : Byte) (s : State) : Result := .next (loadImmediate .d n s)

/-- `LD A,(DE)` (R135). -/
def execLdAMemDe (s : State) : Result := .next (move (.reg .a) (.mem .de) s)

/-- `LD E,n` (R130). -/
def execLdEN (n : Byte) (s : State) : Result := .next (loadImmediate .e n s)

/-- `LD H,n` (R130). -/
def execLdHN (n : Byte) (s : State) : Result := .next (loadImmediate .h n s)

/-- `LD L,n` (R130). -/
def execLdLN (n : Byte) (s : State) : Result := .next (loadImmediate .l n s)

/-- `LD A,n` (R130). -/
def execLdAN (n : Byte) (s : State) : Result := .next (loadImmediate .a n s)

/-- `LD B,B` (R131). -/
def execLdBB (s : State) : Result := .next (move (.reg .b) (.reg .b) s)

/-- `LD B,C` (R131). -/
def execLdBC (s : State) : Result := .next (move (.reg .b) (.reg .c) s)

/-- `LD B,D` (R131). -/
def execLdBD (s : State) : Result := .next (move (.reg .b) (.reg .d) s)

/-- `LD B,E` (R131). -/
def execLdBE (s : State) : Result := .next (move (.reg .b) (.reg .e) s)

/-- `LD B,H` (R131). -/
def execLdBH (s : State) : Result := .next (move (.reg .b) (.reg .h) s)

/-- `LD B,L` (R131). -/
def execLdBL (s : State) : Result := .next (move (.reg .b) (.reg .l) s)

/-- `LD B,(HL)` (R132). -/
def execLdBMemHl (s : State) : Result := .next (move (.reg .b) (.mem .hl) s)

/-- `LD B,A` (R131). -/
def execLdBA (s : State) : Result := .next (move (.reg .b) (.reg .a) s)

/-- `LD C,B` (R131). -/
def execLdCB (s : State) : Result := .next (move (.reg .c) (.reg .b) s)

/-- `LD C,C` (R131). -/
def execLdCC (s : State) : Result := .next (move (.reg .c) (.reg .c) s)

/-- `LD C,D` (R131). -/
def execLdCD (s : State) : Result := .next (move (.reg .c) (.reg .d) s)

/-- `LD C,E` (R131). -/
def execLdCE (s : State) : Result := .next (move (.reg .c) (.reg .e) s)

/-- `LD C,H` (R131). -/
def execLdCH (s : State) : Result := .next (move (.reg .c) (.reg .h) s)

/-- `LD C,L` (R131). -/
def execLdCL (s : State) : Result := .next (move (.reg .c) (.reg .l) s)

/-- `LD C,(HL)` (R132). -/
def execLdCMemHl (s : State) : Result := .next (move (.reg .c) (.mem .hl) s)

/-- `LD C,A` (R131). -/
def execLdCA (s : State) : Result := .next (move (.reg .c) (.reg .a) s)

/-- `LD D,B` (R131). -/
def execLdDB (s : State) : Result := .next (move (.reg .d) (.reg .b) s)

/-- `LD D,C` (R131). -/
def execLdDC (s : State) : Result := .next (move (.reg .d) (.reg .c) s)

/-- `LD D,D` (R131). -/
def execLdDD (s : State) : Result := .next (move (.reg .d) (.reg .d) s)

/-- `LD D,E` (R131). -/
def execLdDE (s : State) : Result := .next (move (.reg .d) (.reg .e) s)

/-- `LD D,H` (R131). -/
def execLdDH (s : State) : Result := .next (move (.reg .d) (.reg .h) s)

/-- `LD D,L` (R131). -/
def execLdDL (s : State) : Result := .next (move (.reg .d) (.reg .l) s)

/-- `LD D,(HL)` (R132). -/
def execLdDMemHl (s : State) : Result := .next (move (.reg .d) (.mem .hl) s)

/-- `LD D,A` (R131). -/
def execLdDA (s : State) : Result := .next (move (.reg .d) (.reg .a) s)

/-- `LD E,B` (R131). -/
def execLdEB (s : State) : Result := .next (move (.reg .e) (.reg .b) s)

/-- `LD E,C` (R131). -/
def execLdEC (s : State) : Result := .next (move (.reg .e) (.reg .c) s)

/-- `LD E,D` (R131). -/
def execLdED (s : State) : Result := .next (move (.reg .e) (.reg .d) s)

/-- `LD E,E` (R131). -/
def execLdEE (s : State) : Result := .next (move (.reg .e) (.reg .e) s)

/-- `LD E,H` (R131). -/
def execLdEH (s : State) : Result := .next (move (.reg .e) (.reg .h) s)

/-- `LD E,L` (R131). -/
def execLdEL (s : State) : Result := .next (move (.reg .e) (.reg .l) s)

/-- `LD E,(HL)` (R132). -/
def execLdEMemHl (s : State) : Result := .next (move (.reg .e) (.mem .hl) s)

/-- `LD E,A` (R131). -/
def execLdEA (s : State) : Result := .next (move (.reg .e) (.reg .a) s)

/-- `LD H,B` (R131). -/
def execLdHB (s : State) : Result := .next (move (.reg .h) (.reg .b) s)

/-- `LD H,C` (R131). -/
def execLdHC (s : State) : Result := .next (move (.reg .h) (.reg .c) s)

/-- `LD H,D` (R131). -/
def execLdHD (s : State) : Result := .next (move (.reg .h) (.reg .d) s)

/-- `LD H,E` (R131). -/
def execLdHE (s : State) : Result := .next (move (.reg .h) (.reg .e) s)

/-- `LD H,H` (R131). -/
def execLdHH (s : State) : Result := .next (move (.reg .h) (.reg .h) s)

/-- `LD H,L` (R131). -/
def execLdHL (s : State) : Result := .next (move (.reg .h) (.reg .l) s)

/-- `LD H,(HL)` (R132). -/
def execLdHMemHl (s : State) : Result := .next (move (.reg .h) (.mem .hl) s)

/-- `LD H,A` (R131). -/
def execLdHA (s : State) : Result := .next (move (.reg .h) (.reg .a) s)

/-- `LD L,B` (R131). -/
def execLdLB (s : State) : Result := .next (move (.reg .l) (.reg .b) s)

/-- `LD L,C` (R131). -/
def execLdLC (s : State) : Result := .next (move (.reg .l) (.reg .c) s)

/-- `LD L,D` (R131). -/
def execLdLD (s : State) : Result := .next (move (.reg .l) (.reg .d) s)

/-- `LD L,E` (R131). -/
def execLdLE (s : State) : Result := .next (move (.reg .l) (.reg .e) s)

/-- `LD L,H` (R131). -/
def execLdLH (s : State) : Result := .next (move (.reg .l) (.reg .h) s)

/-- `LD L,L` (R131). -/
def execLdLL (s : State) : Result := .next (move (.reg .l) (.reg .l) s)

/-- `LD L,(HL)` (R132). -/
def execLdLMemHl (s : State) : Result := .next (move (.reg .l) (.mem .hl) s)

/-- `LD L,A` (R131). -/
def execLdLA (s : State) : Result := .next (move (.reg .l) (.reg .a) s)

/-- `LD (HL),B` (R133). -/
def execLdMemHlB (s : State) : Result := .next (move (.mem .hl) (.reg .b) s)

/-- `LD (HL),C` (R133). -/
def execLdMemHlC (s : State) : Result := .next (move (.mem .hl) (.reg .c) s)

/-- `LD (HL),D` (R133). -/
def execLdMemHlD (s : State) : Result := .next (move (.mem .hl) (.reg .d) s)

/-- `LD (HL),E` (R133). -/
def execLdMemHlE (s : State) : Result := .next (move (.mem .hl) (.reg .e) s)

/-- `LD (HL),H` (R133). -/
def execLdMemHlH (s : State) : Result := .next (move (.mem .hl) (.reg .h) s)

/-- `LD (HL),L` (R133). -/
def execLdMemHlL (s : State) : Result := .next (move (.mem .hl) (.reg .l) s)

/-- `LD (HL),A` (R133). -/
def execLdMemHlA (s : State) : Result := .next (move (.mem .hl) (.reg .a) s)

/-- `LD A,B` (R131). -/
def execLdAB (s : State) : Result := .next (move (.reg .a) (.reg .b) s)

/-- `LD A,C` (R131). -/
def execLdAC (s : State) : Result := .next (move (.reg .a) (.reg .c) s)

/-- `LD A,D` (R131). -/
def execLdAD (s : State) : Result := .next (move (.reg .a) (.reg .d) s)

/-- `LD A,E` (R131). -/
def execLdAE (s : State) : Result := .next (move (.reg .a) (.reg .e) s)

/-- `LD A,H` (R131). -/
def execLdAH (s : State) : Result := .next (move (.reg .a) (.reg .h) s)

/-- `LD A,L` (R131). -/
def execLdAL (s : State) : Result := .next (move (.reg .a) (.reg .l) s)

/-- `LD A,(HL)` (R132). -/
def execLdAMemHl (s : State) : Result := .next (move (.reg .a) (.mem .hl) s)

/-- `LD A,A` (R131). -/
def execLdAA (s : State) : Result := .next (move (.reg .a) (.reg .a) s)

end Sys2Proof.Machine
end

