-- ==== Sys2Proof/Machine/Stack.lean ====
section
/-! DEFINITION. The stack engine (45_stack.md R220 to R226). -/

namespace Sys2Proof.Machine

/-- `Push(rr)` (R221). -/
def push (cfg : Params) (p : Pair) (s : State) : State := push16 (s.pair p) s cfg

/-- `Pop(rr)` (R222, R225): the byte that goes to F is masked with F_WRITE_MASK. -/
def pop (cfg : Params) (p : Pair) (s : State) : State :=
  let popped := pop16 s cfg
  let lo := if p = .af then loByte popped.1 &&& cfg.fWriteMask else loByte popped.1
  (popped.2.setReg p.hi (hiByte popped.1)).setReg p.lo lo

/-- `CallFixedVector(vec)` (R223): push `pc`, which already points past the opcode, at the width RST_PUSH says; then go to the
vector. -/
def callFixedVector (cfg : Params) (vec : Word) (s : State) : State :=
  let s1 :=
    match cfg.rstPush with
    | .bits16 => push16 s.pc s cfg
  { s1 with pc := vec }

/-- `POP BC` (R225). -/
def execPopBc (s : State) : Result := .next (pop params .bc s)

/-- `PUSH BC` (R224). -/
def execPushBc (s : State) : Result := .next (push params .bc s)

/-- `RST 0x00` (R226). -/
def execRst00 (s : State) : Result := .next (callFixedVector params 0x0000 s)

/-- `RST 0x08` (R226). -/
def execRst08 (s : State) : Result := .next (callFixedVector params 0x0008 s)

/-- `POP DE` (R225). -/
def execPopDe (s : State) : Result := .next (pop params .de s)

/-- `PUSH DE` (R224). -/
def execPushDe (s : State) : Result := .next (push params .de s)

/-- `RST 0x10` (R226). -/
def execRst10 (s : State) : Result := .next (callFixedVector params 0x0010 s)

/-- `RST 0x18` (R226). -/
def execRst18 (s : State) : Result := .next (callFixedVector params 0x0018 s)

/-- `POP HL` (R225). -/
def execPopHl (s : State) : Result := .next (pop params .hl s)

/-- `PUSH HL` (R224). -/
def execPushHl (s : State) : Result := .next (push params .hl s)

/-- `RST 0x20` (R226). -/
def execRst20 (s : State) : Result := .next (callFixedVector params 0x0020 s)

/-- `RST 0x28` (R226). -/
def execRst28 (s : State) : Result := .next (callFixedVector params 0x0028 s)

/-- `POP AF` (R225). -/
def execPopAf (s : State) : Result := .next (pop params .af s)

/-- `PUSH AF` (R224). -/
def execPushAf (s : State) : Result := .next (push params .af s)

/-- `RST 0x30` (R226). -/
def execRst30 (s : State) : Result := .next (callFixedVector params 0x0030 s)

/-- `RST 0x38` (R226). -/
def execRst38 (s : State) : Result := .next (callFixedVector params 0x0038 s)

end Sys2Proof.Machine
end

