-- ==== Sys2Proof/WellFormed.lean ====
section
/-! DEFINITION. Which terms of `Instr` are well-formed. Every operand of every row admits every value (30_encoding.md R87: the
immediate is any unsigned byte), so the one ill-formed shape is `prefixCb`: "the prefix is not an instruction of its own"
(46_dispatch.md R245), and the words `CB sel` are the words of the extended row that `sel` selects (log entry 7). -/

namespace Sys2Proof

/-- An instruction that is the one meaning of its own words. -/
def Instr.wellFormed : Instr → Bool
  | .prefixCb _ => false
  | _ => true

end Sys2Proof
end

