-- ==== Sys2Proof/Decode.lean ====
section
/-! DEFINITION. The decoder, from the two opcode maps of 30_encoding.md R89 and R92; after it the encoder, from the match values
of spec/opcode_table.json; and the fields of each row (R99). -/

namespace Sys2Proof

/-! ## Sets of bytes -/

/-- INVALID_SET (30_encoding.md R90; DESIGN CHOICE of the spec, D5; unsafe where the hardware's set differs: log entry 16). -/
def invalidSet : List Byte := ({} : Params).invalidSet

/-- The 74 unimplemented primary bytes, row by row of the table of 30_encoding.md R91. -/
def unimplementedPrimarySet : List Byte :=
  [0x01, 0x11, 0x21, 0x31] ++ [0x36] ++ [0x08] ++ [0x22, 0x2A, 0x32, 0x3A] ++ [0xE0, 0xF0, 0xE2, 0xF2] ++
  [0xEA, 0xFA] ++ [0xF8, 0xF9] ++ [0x03, 0x13, 0x23, 0x33, 0x0B, 0x1B, 0x2B, 0x3B] ++
  [0x09, 0x19, 0x29, 0x39, 0xE8] ++ [0x07, 0x0F, 0x17, 0x1F] ++ [0x27, 0x2F, 0x37, 0x3F] ++
  [0xB8, 0xB9, 0xBA, 0xBB, 0xBC, 0xBD, 0xBE, 0xBF, 0xFE] ++ [0x18, 0x20, 0x28, 0x30, 0x38] ++
  [0xC3, 0xC2, 0xCA, 0xD2, 0xDA, 0xE9] ++ [0xCD, 0xC4, 0xCC, 0xD4, 0xDC] ++
  [0xC9, 0xC0, 0xC8, 0xD0, 0xD8, 0xD9] ++ [0x76, 0x10] ++ [0xF3, 0xFB]

/-- Whether an extended selector is one of the 56 unimplemented ones (30_encoding.md R93): 00-2F and 38-3F. -/
def unimplementedSelector (sel : Byte) : Bool := sel.toNat < 0x30 || (0x38 ≤ sel.toNat && sel.toNat < 0x40)

/-! ## The maps -/

/-- A row without an operand, as a map entry: the second byte is not consulted. -/
def plain (i : Instr) : Byte → Instr := fun _ => i

/-- Row 0x of the primary map (30_encoding.md R89). -/
def primaryRow0 : Vector (Byte → Instr) 16 :=
  #v[plain .nop, plain .unimplLdBcNn, plain .ldMemBcA, plain .unimplIncBc,
    plain .incB, plain .decB, .ldBN, plain .unimplRlca,
    plain .unimplLdMemNnSp, plain .unimplAddHlBc, plain .ldAMemBc, plain .unimplDecBc,
    plain .incC, plain .decC, .ldCN, plain .unimplRrca]

/-- Row 1x of the primary map (30_encoding.md R89). -/
def primaryRow1 : Vector (Byte → Instr) 16 :=
  #v[plain .unimplStop, plain .unimplLdDeNn, plain .ldMemDeA, plain .unimplIncDe,
    plain .incD, plain .decD, .ldDN, plain .unimplRla,
    plain .unimplJrE, plain .unimplAddHlDe, plain .ldAMemDe, plain .unimplDecDe,
    plain .incE, plain .decE, .ldEN, plain .unimplRra]

/-- Row 2x of the primary map (30_encoding.md R89). -/
def primaryRow2 : Vector (Byte → Instr) 16 :=
  #v[plain .unimplJrNzE, plain .unimplLdHlNn, plain .unimplLdMemHlIncA, plain .unimplIncHl,
    plain .incH, plain .decH, .ldHN, plain .unimplDaa,
    plain .unimplJrZE, plain .unimplAddHlHl, plain .unimplLdAMemHlInc, plain .unimplDecHl,
    plain .incL, plain .decL, .ldLN, plain .unimplCpl]

/-- Row 3x of the primary map (30_encoding.md R89). -/
def primaryRow3 : Vector (Byte → Instr) 16 :=
  #v[plain .unimplJrNcE, plain .unimplLdSpNn, plain .unimplLdMemHlDecA, plain .unimplIncSp,
    plain .incMemHl, plain .decMemHl, plain .unimplLdMemHlN, plain .unimplScf,
    plain .unimplJrCE, plain .unimplAddHlSp, plain .unimplLdAMemHlDec, plain .unimplDecSp,
    plain .incA, plain .decA, .ldAN, plain .unimplCcf]

/-- Row 4x of the primary map (30_encoding.md R89). -/
def primaryRow4 : Vector (Byte → Instr) 16 :=
  #v[plain .ldBB, plain .ldBC, plain .ldBD, plain .ldBE,
    plain .ldBH, plain .ldBL, plain .ldBMemHl, plain .ldBA,
    plain .ldCB, plain .ldCC, plain .ldCD, plain .ldCE,
    plain .ldCH, plain .ldCL, plain .ldCMemHl, plain .ldCA]

/-- Row 5x of the primary map (30_encoding.md R89). -/
def primaryRow5 : Vector (Byte → Instr) 16 :=
  #v[plain .ldDB, plain .ldDC, plain .ldDD, plain .ldDE,
    plain .ldDH, plain .ldDL, plain .ldDMemHl, plain .ldDA,
    plain .ldEB, plain .ldEC, plain .ldED, plain .ldEE,
    plain .ldEH, plain .ldEL, plain .ldEMemHl, plain .ldEA]

/-- Row 6x of the primary map (30_encoding.md R89). -/
def primaryRow6 : Vector (Byte → Instr) 16 :=
  #v[plain .ldHB, plain .ldHC, plain .ldHD, plain .ldHE,
    plain .ldHH, plain .ldHL, plain .ldHMemHl, plain .ldHA,
    plain .ldLB, plain .ldLC, plain .ldLD, plain .ldLE,
    plain .ldLH, plain .ldLL, plain .ldLMemHl, plain .ldLA]

/-- Row 7x of the primary map (30_encoding.md R89). -/
def primaryRow7 : Vector (Byte → Instr) 16 :=
  #v[plain .ldMemHlB, plain .ldMemHlC, plain .ldMemHlD, plain .ldMemHlE,
    plain .ldMemHlH, plain .ldMemHlL, plain .unimplHalt, plain .ldMemHlA,
    plain .ldAB, plain .ldAC, plain .ldAD, plain .ldAE,
    plain .ldAH, plain .ldAL, plain .ldAMemHl, plain .ldAA]

/-- Row 8x of the primary map (30_encoding.md R89). -/
def primaryRow8 : Vector (Byte → Instr) 16 :=
  #v[plain .addAB, plain .addAC, plain .addAD, plain .addAE,
    plain .addAH, plain .addAL, plain .addAMemHl, plain .addAA,
    plain .adcAB, plain .adcAC, plain .adcAD, plain .adcAE,
    plain .adcAH, plain .adcAL, plain .adcAMemHl, plain .adcAA]

/-- Row 9x of the primary map (30_encoding.md R89). -/
def primaryRow9 : Vector (Byte → Instr) 16 :=
  #v[plain .subAB, plain .subAC, plain .subAD, plain .subAE,
    plain .subAH, plain .subAL, plain .subAMemHl, plain .subAA,
    plain .sbcAB, plain .sbcAC, plain .sbcAD, plain .sbcAE,
    plain .sbcAH, plain .sbcAL, plain .sbcAMemHl, plain .sbcAA]

/-- Row Ax of the primary map (30_encoding.md R89). -/
def primaryRowA : Vector (Byte → Instr) 16 :=
  #v[plain .andAB, plain .andAC, plain .andAD, plain .andAE,
    plain .andAH, plain .andAL, plain .andAMemHl, plain .andAA,
    plain .xorAB, plain .xorAC, plain .xorAD, plain .xorAE,
    plain .xorAH, plain .xorAL, plain .xorAMemHl, plain .xorAA]

/-- Row Bx of the primary map (30_encoding.md R89). -/
def primaryRowB : Vector (Byte → Instr) 16 :=
  #v[plain .orAB, plain .orAC, plain .orAD, plain .orAE,
    plain .orAH, plain .orAL, plain .orAMemHl, plain .orAA,
    plain .unimplCpB, plain .unimplCpC, plain .unimplCpD, plain .unimplCpE,
    plain .unimplCpH, plain .unimplCpL, plain .unimplCpMemHl, plain .unimplCpA]

/-- Row Cx of the primary map (30_encoding.md R89). -/
def primaryRowC : Vector (Byte → Instr) 16 :=
  #v[plain .unimplRetNz, plain .popBc, plain .unimplJpNzNn, plain .unimplJpNn,
    plain .unimplCallNzNn, plain .pushBc, .addAN, plain .rst00,
    plain .unimplRetZ, plain .unimplRet, plain .unimplJpZNn, .prefixCb,
    plain .unimplCallZNn, plain .unimplCallNn, .adcAN, plain .rst08]

/-- Row Dx of the primary map (30_encoding.md R89). -/
def primaryRowD : Vector (Byte → Instr) 16 :=
  #v[plain .unimplRetNc, plain .popDe, plain .unimplJpNcNn, plain .invalidD3,
    plain .unimplCallNcNn, plain .pushDe, .subAN, plain .rst10,
    plain .unimplRetC, plain .unimplReti, plain .unimplJpCNn, plain .invalidDB,
    plain .unimplCallCNn, plain .invalidDD, .sbcAN, plain .rst18]

/-- Row Ex of the primary map (30_encoding.md R89). -/
def primaryRowE : Vector (Byte → Instr) 16 :=
  #v[plain .unimplLdhMemNA, plain .popHl, plain .unimplLdMemCA, plain .invalidE3,
    plain .invalidE4, plain .pushHl, .andAN, plain .rst20,
    plain .unimplAddSpE, plain .unimplJpHl, plain .unimplLdMemNnA, plain .invalidEB,
    plain .invalidEC, plain .invalidED, .xorAN, plain .rst28]

/-- Row Fx of the primary map (30_encoding.md R89). -/
def primaryRowF : Vector (Byte → Instr) 16 :=
  #v[plain .unimplLdhAMemN, plain .popAf, plain .unimplLdAMemC, plain .unimplDi,
    plain .invalidF4, plain .pushAf, .orAN, plain .rst30,
    plain .unimplLdHlSpPlusE, plain .unimplLdSpHl, plain .unimplLdAMemNn, plain .unimplEi,
    plain .invalidFC, plain .invalidFD, plain .unimplCpN, plain .rst38]

/-- The primary page, row = high nibble, column = low nibble (30_encoding.md R89). -/
def primaryMap : Vector (Vector (Byte → Instr) 16) 16 :=
  #v[primaryRow0, primaryRow1, primaryRow2, primaryRow3, primaryRow4, primaryRow5, primaryRow6, primaryRow7, primaryRow8, primaryRow9, primaryRowA, primaryRowB, primaryRowC, primaryRowD, primaryRowE, primaryRowF]

/-- Selectors 00 to 0F (30_encoding.md R92). -/
def extendedRow0 : Vector Instr 16 :=
  #v[.unimplRlcB, .unimplRlcC, .unimplRlcD, .unimplRlcE, .unimplRlcH, .unimplRlcL, .unimplRlcMemHl, .unimplRlcA,
    .unimplRrcB, .unimplRrcC, .unimplRrcD, .unimplRrcE, .unimplRrcH, .unimplRrcL, .unimplRrcMemHl, .unimplRrcA]

/-- Selectors 10 to 1F (30_encoding.md R92). -/
def extendedRow1 : Vector Instr 16 :=
  #v[.unimplRlB, .unimplRlC, .unimplRlD, .unimplRlE, .unimplRlH, .unimplRlL, .unimplRlMemHl, .unimplRlA,
    .unimplRrB, .unimplRrC, .unimplRrD, .unimplRrE, .unimplRrH, .unimplRrL, .unimplRrMemHl, .unimplRrA]

/-- Selectors 20 to 2F (30_encoding.md R92). -/
def extendedRow2 : Vector Instr 16 :=
  #v[.unimplSlaB, .unimplSlaC, .unimplSlaD, .unimplSlaE, .unimplSlaH, .unimplSlaL, .unimplSlaMemHl, .unimplSlaA,
    .unimplSraB, .unimplSraC, .unimplSraD, .unimplSraE, .unimplSraH, .unimplSraL, .unimplSraMemHl, .unimplSraA]

/-- Selectors 30 to 3F (30_encoding.md R92). -/
def extendedRow3 : Vector Instr 16 :=
  #v[.swapB, .swapC, .swapD, .swapE, .swapH, .swapL, .swapMemHl, .swapA,
    .unimplSrlB, .unimplSrlC, .unimplSrlD, .unimplSrlE, .unimplSrlH, .unimplSrlL, .unimplSrlMemHl, .unimplSrlA]

/-- Selectors 40 to 4F (30_encoding.md R92). -/
def extendedRow4 : Vector Instr 16 :=
  #v[.bit0B, .bit0C, .bit0D, .bit0E, .bit0H, .bit0L, .bit0MemHl, .bit0A,
    .bit1B, .bit1C, .bit1D, .bit1E, .bit1H, .bit1L, .bit1MemHl, .bit1A]

/-- Selectors 50 to 5F (30_encoding.md R92). -/
def extendedRow5 : Vector Instr 16 :=
  #v[.bit2B, .bit2C, .bit2D, .bit2E, .bit2H, .bit2L, .bit2MemHl, .bit2A,
    .bit3B, .bit3C, .bit3D, .bit3E, .bit3H, .bit3L, .bit3MemHl, .bit3A]

/-- Selectors 60 to 6F (30_encoding.md R92). -/
def extendedRow6 : Vector Instr 16 :=
  #v[.bit4B, .bit4C, .bit4D, .bit4E, .bit4H, .bit4L, .bit4MemHl, .bit4A,
    .bit5B, .bit5C, .bit5D, .bit5E, .bit5H, .bit5L, .bit5MemHl, .bit5A]

/-- Selectors 70 to 7F (30_encoding.md R92). -/
def extendedRow7 : Vector Instr 16 :=
  #v[.bit6B, .bit6C, .bit6D, .bit6E, .bit6H, .bit6L, .bit6MemHl, .bit6A,
    .bit7B, .bit7C, .bit7D, .bit7E, .bit7H, .bit7L, .bit7MemHl, .bit7A]

/-- Selectors 80 to 8F (30_encoding.md R92). -/
def extendedRow8 : Vector Instr 16 :=
  #v[.res0B, .res0C, .res0D, .res0E, .res0H, .res0L, .res0MemHl, .res0A,
    .res1B, .res1C, .res1D, .res1E, .res1H, .res1L, .res1MemHl, .res1A]

/-- Selectors 90 to 9F (30_encoding.md R92). -/
def extendedRow9 : Vector Instr 16 :=
  #v[.res2B, .res2C, .res2D, .res2E, .res2H, .res2L, .res2MemHl, .res2A,
    .res3B, .res3C, .res3D, .res3E, .res3H, .res3L, .res3MemHl, .res3A]

/-- Selectors A0 to AF (30_encoding.md R92). -/
def extendedRowA : Vector Instr 16 :=
  #v[.res4B, .res4C, .res4D, .res4E, .res4H, .res4L, .res4MemHl, .res4A,
    .res5B, .res5C, .res5D, .res5E, .res5H, .res5L, .res5MemHl, .res5A]

/-- Selectors B0 to BF (30_encoding.md R92). -/
def extendedRowB : Vector Instr 16 :=
  #v[.res6B, .res6C, .res6D, .res6E, .res6H, .res6L, .res6MemHl, .res6A,
    .res7B, .res7C, .res7D, .res7E, .res7H, .res7L, .res7MemHl, .res7A]

/-- Selectors C0 to CF (30_encoding.md R92). -/
def extendedRowC : Vector Instr 16 :=
  #v[.set0B, .set0C, .set0D, .set0E, .set0H, .set0L, .set0MemHl, .set0A,
    .set1B, .set1C, .set1D, .set1E, .set1H, .set1L, .set1MemHl, .set1A]

/-- Selectors D0 to DF (30_encoding.md R92). -/
def extendedRowD : Vector Instr 16 :=
  #v[.set2B, .set2C, .set2D, .set2E, .set2H, .set2L, .set2MemHl, .set2A,
    .set3B, .set3C, .set3D, .set3E, .set3H, .set3L, .set3MemHl, .set3A]

/-- Selectors E0 to EF (30_encoding.md R92). -/
def extendedRowE : Vector Instr 16 :=
  #v[.set4B, .set4C, .set4D, .set4E, .set4H, .set4L, .set4MemHl, .set4A,
    .set5B, .set5C, .set5D, .set5E, .set5H, .set5L, .set5MemHl, .set5A]

/-- Selectors F0 to FF (30_encoding.md R92). -/
def extendedRowF : Vector Instr 16 :=
  #v[.set6B, .set6C, .set6D, .set6E, .set6H, .set6L, .set6MemHl, .set6A,
    .set7B, .set7C, .set7D, .set7E, .set7H, .set7L, .set7MemHl, .set7A]

/-- The extended page, row = high nibble of the selector (30_encoding.md R92). -/
def extendedMap : Vector (Vector Instr 16) 16 :=
  #v[extendedRow0, extendedRow1, extendedRow2, extendedRow3, extendedRow4, extendedRow5, extendedRow6, extendedRow7, extendedRow8, extendedRow9, extendedRowA, extendedRowB, extendedRowC, extendedRowD, extendedRowE, extendedRowF]

/-- The high nibble of a byte. -/
def nibbleHi (v : Byte) : Fin 16 := (v.extractLsb' 4 4).toFin

/-- The low nibble of a byte. -/
def nibbleLo (v : Byte) : Fin 16 := (v.extractLsb' 0 4).toFin

/-- The primary page: the row of the first byte, with the second byte as its operand where it has one. At 0xCB it is the row
PREFIX CB with the second byte as selector. -/
def decodePrimary (op second : Byte) : Instr := primaryMap[nibbleHi op][nibbleLo op] second

/-- The extended page: the row of the selector byte. -/
def decodeExtended (sel : Byte) : Instr := extendedMap[nibbleHi sel][nibbleLo sel]

/-- Whether an instruction has a second byte, from its first byte alone (30_encoding.md R81): 0xCB, the `LD r,n` group
`00rrr110` with `rrr ≠ 110`, and the `op A,n` group `11fff110` with `fff ≠ 111`. -/
def hasSecondByte (op : Byte) : Bool :=
  let x := op.extractLsb' 6 2
  let y := op.extractLsb' 3 3
  let z := op.extractLsb' 0 3
  op == Config.prefixByte || (x == 0 && z == 6 && y != 6) || (x == 3 && z == 6 && y != 7)

/-- The instruction of a first byte and, where it has one, its second byte (30_encoding.md R98): total, and for 0xCB the
classification of the following byte. -/
def decodeBytes (op second : Byte) : Instr :=
  if op = Config.prefixByte then decodeExtended second else decodePrimary op second

/-- Why a list of bytes is no instruction. Every byte of memory is readable, so a step never meets one; a list can end too
early. -/
inductive DecodeReject where
  /-- There is no byte. -/
  | noByte
  /-- The list ends after the first byte of a two-byte instruction. -/
  | secondByteMissing (op : Byte)
  deriving DecidableEq, Repr

/-- What the decoder answers on a list of bytes: an instruction with the bytes that are left, or a rejection by name. -/
inductive Decoded where
  | ok (i : Instr) (rest : List Byte)
  | rejected (why : DecodeReject)
  deriving DecidableEq, Repr

/-- The decoder on bytes at increasing addresses (20_memory.md R55). -/
def decode : List Byte → Decoded
  | [] => .rejected .noByte
  | op :: rest =>
    if hasSecondByte op then
      match rest with
      | [] => .rejected (.secondByteMissing op)
      | second :: rest' => .ok (decodeBytes op second) rest'
    else .ok (decodeBytes op 0x00) rest

/-! ## The host's words -/

/-- The two bytes of an instruction whose bits are `w` as spec/opcode_table.json numbers them (log entry 8). A row of one byte
is that byte with a second byte of zeros. A row of the extended page is numbered with the prefix in bits 15 to 8 (R99);
any other 16-bit row has its first byte in bits 7 to 0. -/
def tableBytes (nbits w : Nat) : Byte × Byte :=
  if nbits ≤ 8 then (BitVec.ofNat 8 w, 0x00)
  else if w / 256 % 256 = 0xCB then (0xCB, BitVec.ofNat 8 w)
  else (BitVec.ofNat 8 w, BitVec.ofNat 8 (w / 256))

/-- The instruction the decoder reads from a word of the table. A row of at most 8 bits is a row of the primary page and is
read by the primary decoder, so that the word 0xCB gives the row PREFIX CB (with selector 0x00) and not the extended row
whose words those are; every other word is read by the whole decoder (log entry 8). -/
def decodeTableWord (nbits w : Nat) : Option Instr :=
  let bytes := tableBytes nbits w
  if nbits ≤ 8 then some (decodePrimary bytes.1 bytes.2) else some (decodeBytes bytes.1 bytes.2)

/-! ## The encoder -/

/-- The bytes of an instruction (the match values of spec/opcode_table.json; 30_encoding.md R80 for the operand byte). -/
def encode : Instr → List Byte
  | .nop => [0x00]
  | .unimplLdBcNn => [0x01]
  | .ldMemBcA => [0x02]
  | .unimplIncBc => [0x03]
  | .incB => [0x04]
  | .decB => [0x05]
  | .ldBN n => [0x06, n]
  | .unimplRlca => [0x07]
  | .unimplLdMemNnSp => [0x08]
  | .unimplAddHlBc => [0x09]
  | .ldAMemBc => [0x0A]
  | .unimplDecBc => [0x0B]
  | .incC => [0x0C]
  | .decC => [0x0D]
  | .ldCN n => [0x0E, n]
  | .unimplRrca => [0x0F]
  | .unimplStop => [0x10]
  | .unimplLdDeNn => [0x11]
  | .ldMemDeA => [0x12]
  | .unimplIncDe => [0x13]
  | .incD => [0x14]
  | .decD => [0x15]
  | .ldDN n => [0x16, n]
  | .unimplRla => [0x17]
  | .unimplJrE => [0x18]
  | .unimplAddHlDe => [0x19]
  | .ldAMemDe => [0x1A]
  | .unimplDecDe => [0x1B]
  | .incE => [0x1C]
  | .decE => [0x1D]
  | .ldEN n => [0x1E, n]
  | .unimplRra => [0x1F]
  | .unimplJrNzE => [0x20]
  | .unimplLdHlNn => [0x21]
  | .unimplLdMemHlIncA => [0x22]
  | .unimplIncHl => [0x23]
  | .incH => [0x24]
  | .decH => [0x25]
  | .ldHN n => [0x26, n]
  | .unimplDaa => [0x27]
  | .unimplJrZE => [0x28]
  | .unimplAddHlHl => [0x29]
  | .unimplLdAMemHlInc => [0x2A]
  | .unimplDecHl => [0x2B]
  | .incL => [0x2C]
  | .decL => [0x2D]
  | .ldLN n => [0x2E, n]
  | .unimplCpl => [0x2F]
  | .unimplJrNcE => [0x30]
  | .unimplLdSpNn => [0x31]
  | .unimplLdMemHlDecA => [0x32]
  | .unimplIncSp => [0x33]
  | .incMemHl => [0x34]
  | .decMemHl => [0x35]
  | .unimplLdMemHlN => [0x36]
  | .unimplScf => [0x37]
  | .unimplJrCE => [0x38]
  | .unimplAddHlSp => [0x39]
  | .unimplLdAMemHlDec => [0x3A]
  | .unimplDecSp => [0x3B]
  | .incA => [0x3C]
  | .decA => [0x3D]
  | .ldAN n => [0x3E, n]
  | .unimplCcf => [0x3F]
  | .ldBB => [0x40]
  | .ldBC => [0x41]
  | .ldBD => [0x42]
  | .ldBE => [0x43]
  | .ldBH => [0x44]
  | .ldBL => [0x45]
  | .ldBMemHl => [0x46]
  | .ldBA => [0x47]
  | .ldCB => [0x48]
  | .ldCC => [0x49]
  | .ldCD => [0x4A]
  | .ldCE => [0x4B]
  | .ldCH => [0x4C]
  | .ldCL => [0x4D]
  | .ldCMemHl => [0x4E]
  | .ldCA => [0x4F]
  | .ldDB => [0x50]
  | .ldDC => [0x51]
  | .ldDD => [0x52]
  | .ldDE => [0x53]
  | .ldDH => [0x54]
  | .ldDL => [0x55]
  | .ldDMemHl => [0x56]
  | .ldDA => [0x57]
  | .ldEB => [0x58]
  | .ldEC => [0x59]
  | .ldED => [0x5A]
  | .ldEE => [0x5B]
  | .ldEH => [0x5C]
  | .ldEL => [0x5D]
  | .ldEMemHl => [0x5E]
  | .ldEA => [0x5F]
  | .ldHB => [0x60]
  | .ldHC => [0x61]
  | .ldHD => [0x62]
  | .ldHE => [0x63]
  | .ldHH => [0x64]
  | .ldHL => [0x65]
  | .ldHMemHl => [0x66]
  | .ldHA => [0x67]
  | .ldLB => [0x68]
  | .ldLC => [0x69]
  | .ldLD => [0x6A]
  | .ldLE => [0x6B]
  | .ldLH => [0x6C]
  | .ldLL => [0x6D]
  | .ldLMemHl => [0x6E]
  | .ldLA => [0x6F]
  | .ldMemHlB => [0x70]
  | .ldMemHlC => [0x71]
  | .ldMemHlD => [0x72]
  | .ldMemHlE => [0x73]
  | .ldMemHlH => [0x74]
  | .ldMemHlL => [0x75]
  | .unimplHalt => [0x76]
  | .ldMemHlA => [0x77]
  | .ldAB => [0x78]
  | .ldAC => [0x79]
  | .ldAD => [0x7A]
  | .ldAE => [0x7B]
  | .ldAH => [0x7C]
  | .ldAL => [0x7D]
  | .ldAMemHl => [0x7E]
  | .ldAA => [0x7F]
  | .addAB => [0x80]
  | .addAC => [0x81]
  | .addAD => [0x82]
  | .addAE => [0x83]
  | .addAH => [0x84]
  | .addAL => [0x85]
  | .addAMemHl => [0x86]
  | .addAA => [0x87]
  | .adcAB => [0x88]
  | .adcAC => [0x89]
  | .adcAD => [0x8A]
  | .adcAE => [0x8B]
  | .adcAH => [0x8C]
  | .adcAL => [0x8D]
  | .adcAMemHl => [0x8E]
  | .adcAA => [0x8F]
  | .subAB => [0x90]
  | .subAC => [0x91]
  | .subAD => [0x92]
  | .subAE => [0x93]
  | .subAH => [0x94]
  | .subAL => [0x95]
  | .subAMemHl => [0x96]
  | .subAA => [0x97]
  | .sbcAB => [0x98]
  | .sbcAC => [0x99]
  | .sbcAD => [0x9A]
  | .sbcAE => [0x9B]
  | .sbcAH => [0x9C]
  | .sbcAL => [0x9D]
  | .sbcAMemHl => [0x9E]
  | .sbcAA => [0x9F]
  | .andAB => [0xA0]
  | .andAC => [0xA1]
  | .andAD => [0xA2]
  | .andAE => [0xA3]
  | .andAH => [0xA4]
  | .andAL => [0xA5]
  | .andAMemHl => [0xA6]
  | .andAA => [0xA7]
  | .xorAB => [0xA8]
  | .xorAC => [0xA9]
  | .xorAD => [0xAA]
  | .xorAE => [0xAB]
  | .xorAH => [0xAC]
  | .xorAL => [0xAD]
  | .xorAMemHl => [0xAE]
  | .xorAA => [0xAF]
  | .orAB => [0xB0]
  | .orAC => [0xB1]
  | .orAD => [0xB2]
  | .orAE => [0xB3]
  | .orAH => [0xB4]
  | .orAL => [0xB5]
  | .orAMemHl => [0xB6]
  | .orAA => [0xB7]
  | .unimplCpB => [0xB8]
  | .unimplCpC => [0xB9]
  | .unimplCpD => [0xBA]
  | .unimplCpE => [0xBB]
  | .unimplCpH => [0xBC]
  | .unimplCpL => [0xBD]
  | .unimplCpMemHl => [0xBE]
  | .unimplCpA => [0xBF]
  | .unimplRetNz => [0xC0]
  | .popBc => [0xC1]
  | .unimplJpNzNn => [0xC2]
  | .unimplJpNn => [0xC3]
  | .unimplCallNzNn => [0xC4]
  | .pushBc => [0xC5]
  | .addAN n => [0xC6, n]
  | .rst00 => [0xC7]
  | .unimplRetZ => [0xC8]
  | .unimplRet => [0xC9]
  | .unimplJpZNn => [0xCA]
  | .prefixCb sel => [0xCB, sel]
  | .unimplCallZNn => [0xCC]
  | .unimplCallNn => [0xCD]
  | .adcAN n => [0xCE, n]
  | .rst08 => [0xCF]
  | .unimplRetNc => [0xD0]
  | .popDe => [0xD1]
  | .unimplJpNcNn => [0xD2]
  | .invalidD3 => [0xD3]
  | .unimplCallNcNn => [0xD4]
  | .pushDe => [0xD5]
  | .subAN n => [0xD6, n]
  | .rst10 => [0xD7]
  | .unimplRetC => [0xD8]
  | .unimplReti => [0xD9]
  | .unimplJpCNn => [0xDA]
  | .invalidDB => [0xDB]
  | .unimplCallCNn => [0xDC]
  | .invalidDD => [0xDD]
  | .sbcAN n => [0xDE, n]
  | .rst18 => [0xDF]
  | .unimplLdhMemNA => [0xE0]
  | .popHl => [0xE1]
  | .unimplLdMemCA => [0xE2]
  | .invalidE3 => [0xE3]
  | .invalidE4 => [0xE4]
  | .pushHl => [0xE5]
  | .andAN n => [0xE6, n]
  | .rst20 => [0xE7]
  | .unimplAddSpE => [0xE8]
  | .unimplJpHl => [0xE9]
  | .unimplLdMemNnA => [0xEA]
  | .invalidEB => [0xEB]
  | .invalidEC => [0xEC]
  | .invalidED => [0xED]
  | .xorAN n => [0xEE, n]
  | .rst28 => [0xEF]
  | .unimplLdhAMemN => [0xF0]
  | .popAf => [0xF1]
  | .unimplLdAMemC => [0xF2]
  | .unimplDi => [0xF3]
  | .invalidF4 => [0xF4]
  | .pushAf => [0xF5]
  | .orAN n => [0xF6, n]
  | .rst30 => [0xF7]
  | .unimplLdHlSpPlusE => [0xF8]
  | .unimplLdSpHl => [0xF9]
  | .unimplLdAMemNn => [0xFA]
  | .unimplEi => [0xFB]
  | .invalidFC => [0xFC]
  | .invalidFD => [0xFD]
  | .unimplCpN => [0xFE]
  | .rst38 => [0xFF]
  | .unimplRlcB => [0xCB, 0x00]
  | .unimplRlcC => [0xCB, 0x01]
  | .unimplRlcD => [0xCB, 0x02]
  | .unimplRlcE => [0xCB, 0x03]
  | .unimplRlcH => [0xCB, 0x04]
  | .unimplRlcL => [0xCB, 0x05]
  | .unimplRlcMemHl => [0xCB, 0x06]
  | .unimplRlcA => [0xCB, 0x07]
  | .unimplRrcB => [0xCB, 0x08]
  | .unimplRrcC => [0xCB, 0x09]
  | .unimplRrcD => [0xCB, 0x0A]
  | .unimplRrcE => [0xCB, 0x0B]
  | .unimplRrcH => [0xCB, 0x0C]
  | .unimplRrcL => [0xCB, 0x0D]
  | .unimplRrcMemHl => [0xCB, 0x0E]
  | .unimplRrcA => [0xCB, 0x0F]
  | .unimplRlB => [0xCB, 0x10]
  | .unimplRlC => [0xCB, 0x11]
  | .unimplRlD => [0xCB, 0x12]
  | .unimplRlE => [0xCB, 0x13]
  | .unimplRlH => [0xCB, 0x14]
  | .unimplRlL => [0xCB, 0x15]
  | .unimplRlMemHl => [0xCB, 0x16]
  | .unimplRlA => [0xCB, 0x17]
  | .unimplRrB => [0xCB, 0x18]
  | .unimplRrC => [0xCB, 0x19]
  | .unimplRrD => [0xCB, 0x1A]
  | .unimplRrE => [0xCB, 0x1B]
  | .unimplRrH => [0xCB, 0x1C]
  | .unimplRrL => [0xCB, 0x1D]
  | .unimplRrMemHl => [0xCB, 0x1E]
  | .unimplRrA => [0xCB, 0x1F]
  | .unimplSlaB => [0xCB, 0x20]
  | .unimplSlaC => [0xCB, 0x21]
  | .unimplSlaD => [0xCB, 0x22]
  | .unimplSlaE => [0xCB, 0x23]
  | .unimplSlaH => [0xCB, 0x24]
  | .unimplSlaL => [0xCB, 0x25]
  | .unimplSlaMemHl => [0xCB, 0x26]
  | .unimplSlaA => [0xCB, 0x27]
  | .unimplSraB => [0xCB, 0x28]
  | .unimplSraC => [0xCB, 0x29]
  | .unimplSraD => [0xCB, 0x2A]
  | .unimplSraE => [0xCB, 0x2B]
  | .unimplSraH => [0xCB, 0x2C]
  | .unimplSraL => [0xCB, 0x2D]
  | .unimplSraMemHl => [0xCB, 0x2E]
  | .unimplSraA => [0xCB, 0x2F]
  | .swapB => [0xCB, 0x30]
  | .swapC => [0xCB, 0x31]
  | .swapD => [0xCB, 0x32]
  | .swapE => [0xCB, 0x33]
  | .swapH => [0xCB, 0x34]
  | .swapL => [0xCB, 0x35]
  | .swapMemHl => [0xCB, 0x36]
  | .swapA => [0xCB, 0x37]
  | .unimplSrlB => [0xCB, 0x38]
  | .unimplSrlC => [0xCB, 0x39]
  | .unimplSrlD => [0xCB, 0x3A]
  | .unimplSrlE => [0xCB, 0x3B]
  | .unimplSrlH => [0xCB, 0x3C]
  | .unimplSrlL => [0xCB, 0x3D]
  | .unimplSrlMemHl => [0xCB, 0x3E]
  | .unimplSrlA => [0xCB, 0x3F]
  | .bit0B => [0xCB, 0x40]
  | .bit0C => [0xCB, 0x41]
  | .bit0D => [0xCB, 0x42]
  | .bit0E => [0xCB, 0x43]
  | .bit0H => [0xCB, 0x44]
  | .bit0L => [0xCB, 0x45]
  | .bit0MemHl => [0xCB, 0x46]
  | .bit0A => [0xCB, 0x47]
  | .bit1B => [0xCB, 0x48]
  | .bit1C => [0xCB, 0x49]
  | .bit1D => [0xCB, 0x4A]
  | .bit1E => [0xCB, 0x4B]
  | .bit1H => [0xCB, 0x4C]
  | .bit1L => [0xCB, 0x4D]
  | .bit1MemHl => [0xCB, 0x4E]
  | .bit1A => [0xCB, 0x4F]
  | .bit2B => [0xCB, 0x50]
  | .bit2C => [0xCB, 0x51]
  | .bit2D => [0xCB, 0x52]
  | .bit2E => [0xCB, 0x53]
  | .bit2H => [0xCB, 0x54]
  | .bit2L => [0xCB, 0x55]
  | .bit2MemHl => [0xCB, 0x56]
  | .bit2A => [0xCB, 0x57]
  | .bit3B => [0xCB, 0x58]
  | .bit3C => [0xCB, 0x59]
  | .bit3D => [0xCB, 0x5A]
  | .bit3E => [0xCB, 0x5B]
  | .bit3H => [0xCB, 0x5C]
  | .bit3L => [0xCB, 0x5D]
  | .bit3MemHl => [0xCB, 0x5E]
  | .bit3A => [0xCB, 0x5F]
  | .bit4B => [0xCB, 0x60]
  | .bit4C => [0xCB, 0x61]
  | .bit4D => [0xCB, 0x62]
  | .bit4E => [0xCB, 0x63]
  | .bit4H => [0xCB, 0x64]
  | .bit4L => [0xCB, 0x65]
  | .bit4MemHl => [0xCB, 0x66]
  | .bit4A => [0xCB, 0x67]
  | .bit5B => [0xCB, 0x68]
  | .bit5C => [0xCB, 0x69]
  | .bit5D => [0xCB, 0x6A]
  | .bit5E => [0xCB, 0x6B]
  | .bit5H => [0xCB, 0x6C]
  | .bit5L => [0xCB, 0x6D]
  | .bit5MemHl => [0xCB, 0x6E]
  | .bit5A => [0xCB, 0x6F]
  | .bit6B => [0xCB, 0x70]
  | .bit6C => [0xCB, 0x71]
  | .bit6D => [0xCB, 0x72]
  | .bit6E => [0xCB, 0x73]
  | .bit6H => [0xCB, 0x74]
  | .bit6L => [0xCB, 0x75]
  | .bit6MemHl => [0xCB, 0x76]
  | .bit6A => [0xCB, 0x77]
  | .bit7B => [0xCB, 0x78]
  | .bit7C => [0xCB, 0x79]
  | .bit7D => [0xCB, 0x7A]
  | .bit7E => [0xCB, 0x7B]
  | .bit7H => [0xCB, 0x7C]
  | .bit7L => [0xCB, 0x7D]
  | .bit7MemHl => [0xCB, 0x7E]
  | .bit7A => [0xCB, 0x7F]
  | .res0B => [0xCB, 0x80]
  | .res0C => [0xCB, 0x81]
  | .res0D => [0xCB, 0x82]
  | .res0E => [0xCB, 0x83]
  | .res0H => [0xCB, 0x84]
  | .res0L => [0xCB, 0x85]
  | .res0MemHl => [0xCB, 0x86]
  | .res0A => [0xCB, 0x87]
  | .res1B => [0xCB, 0x88]
  | .res1C => [0xCB, 0x89]
  | .res1D => [0xCB, 0x8A]
  | .res1E => [0xCB, 0x8B]
  | .res1H => [0xCB, 0x8C]
  | .res1L => [0xCB, 0x8D]
  | .res1MemHl => [0xCB, 0x8E]
  | .res1A => [0xCB, 0x8F]
  | .res2B => [0xCB, 0x90]
  | .res2C => [0xCB, 0x91]
  | .res2D => [0xCB, 0x92]
  | .res2E => [0xCB, 0x93]
  | .res2H => [0xCB, 0x94]
  | .res2L => [0xCB, 0x95]
  | .res2MemHl => [0xCB, 0x96]
  | .res2A => [0xCB, 0x97]
  | .res3B => [0xCB, 0x98]
  | .res3C => [0xCB, 0x99]
  | .res3D => [0xCB, 0x9A]
  | .res3E => [0xCB, 0x9B]
  | .res3H => [0xCB, 0x9C]
  | .res3L => [0xCB, 0x9D]
  | .res3MemHl => [0xCB, 0x9E]
  | .res3A => [0xCB, 0x9F]
  | .res4B => [0xCB, 0xA0]
  | .res4C => [0xCB, 0xA1]
  | .res4D => [0xCB, 0xA2]
  | .res4E => [0xCB, 0xA3]
  | .res4H => [0xCB, 0xA4]
  | .res4L => [0xCB, 0xA5]
  | .res4MemHl => [0xCB, 0xA6]
  | .res4A => [0xCB, 0xA7]
  | .res5B => [0xCB, 0xA8]
  | .res5C => [0xCB, 0xA9]
  | .res5D => [0xCB, 0xAA]
  | .res5E => [0xCB, 0xAB]
  | .res5H => [0xCB, 0xAC]
  | .res5L => [0xCB, 0xAD]
  | .res5MemHl => [0xCB, 0xAE]
  | .res5A => [0xCB, 0xAF]
  | .res6B => [0xCB, 0xB0]
  | .res6C => [0xCB, 0xB1]
  | .res6D => [0xCB, 0xB2]
  | .res6E => [0xCB, 0xB3]
  | .res6H => [0xCB, 0xB4]
  | .res6L => [0xCB, 0xB5]
  | .res6MemHl => [0xCB, 0xB6]
  | .res6A => [0xCB, 0xB7]
  | .res7B => [0xCB, 0xB8]
  | .res7C => [0xCB, 0xB9]
  | .res7D => [0xCB, 0xBA]
  | .res7E => [0xCB, 0xBB]
  | .res7H => [0xCB, 0xBC]
  | .res7L => [0xCB, 0xBD]
  | .res7MemHl => [0xCB, 0xBE]
  | .res7A => [0xCB, 0xBF]
  | .set0B => [0xCB, 0xC0]
  | .set0C => [0xCB, 0xC1]
  | .set0D => [0xCB, 0xC2]
  | .set0E => [0xCB, 0xC3]
  | .set0H => [0xCB, 0xC4]
  | .set0L => [0xCB, 0xC5]
  | .set0MemHl => [0xCB, 0xC6]
  | .set0A => [0xCB, 0xC7]
  | .set1B => [0xCB, 0xC8]
  | .set1C => [0xCB, 0xC9]
  | .set1D => [0xCB, 0xCA]
  | .set1E => [0xCB, 0xCB]
  | .set1H => [0xCB, 0xCC]
  | .set1L => [0xCB, 0xCD]
  | .set1MemHl => [0xCB, 0xCE]
  | .set1A => [0xCB, 0xCF]
  | .set2B => [0xCB, 0xD0]
  | .set2C => [0xCB, 0xD1]
  | .set2D => [0xCB, 0xD2]
  | .set2E => [0xCB, 0xD3]
  | .set2H => [0xCB, 0xD4]
  | .set2L => [0xCB, 0xD5]
  | .set2MemHl => [0xCB, 0xD6]
  | .set2A => [0xCB, 0xD7]
  | .set3B => [0xCB, 0xD8]
  | .set3C => [0xCB, 0xD9]
  | .set3D => [0xCB, 0xDA]
  | .set3E => [0xCB, 0xDB]
  | .set3H => [0xCB, 0xDC]
  | .set3L => [0xCB, 0xDD]
  | .set3MemHl => [0xCB, 0xDE]
  | .set3A => [0xCB, 0xDF]
  | .set4B => [0xCB, 0xE0]
  | .set4C => [0xCB, 0xE1]
  | .set4D => [0xCB, 0xE2]
  | .set4E => [0xCB, 0xE3]
  | .set4H => [0xCB, 0xE4]
  | .set4L => [0xCB, 0xE5]
  | .set4MemHl => [0xCB, 0xE6]
  | .set4A => [0xCB, 0xE7]
  | .set5B => [0xCB, 0xE8]
  | .set5C => [0xCB, 0xE9]
  | .set5D => [0xCB, 0xEA]
  | .set5E => [0xCB, 0xEB]
  | .set5H => [0xCB, 0xEC]
  | .set5L => [0xCB, 0xED]
  | .set5MemHl => [0xCB, 0xEE]
  | .set5A => [0xCB, 0xEF]
  | .set6B => [0xCB, 0xF0]
  | .set6C => [0xCB, 0xF1]
  | .set6D => [0xCB, 0xF2]
  | .set6E => [0xCB, 0xF3]
  | .set6H => [0xCB, 0xF4]
  | .set6L => [0xCB, 0xF5]
  | .set6MemHl => [0xCB, 0xF6]
  | .set6A => [0xCB, 0xF7]
  | .set7B => [0xCB, 0xF8]
  | .set7C => [0xCB, 0xF9]
  | .set7D => [0xCB, 0xFA]
  | .set7E => [0xCB, 0xFB]
  | .set7H => [0xCB, 0xFC]
  | .set7L => [0xCB, 0xFD]
  | .set7MemHl => [0xCB, 0xFE]
  | .set7A => [0xCB, 0xFF]

/-! ## Rows and their fields -/

/-- The form and fields of a row (30_encoding.md R99); none where the row has no action of its own (unimplemented, invalid, and
PREFIX CB, whose action is the selected row's). -/
def Instr.form : Instr → Option Form
  | .nop => some (.nop)
  | .unimplLdBcNn => none
  | .ldMemBcA => some (.ldATo .bc)
  | .unimplIncBc => none
  | .incB => some (.unary .inc (.reg .b))
  | .decB => some (.unary .dec (.reg .b))
  | .ldBN n => some (.ldImm .b n)
  | .unimplRlca => none
  | .unimplLdMemNnSp => none
  | .unimplAddHlBc => none
  | .ldAMemBc => some (.ldAFrom .bc)
  | .unimplDecBc => none
  | .incC => some (.unary .inc (.reg .c))
  | .decC => some (.unary .dec (.reg .c))
  | .ldCN n => some (.ldImm .c n)
  | .unimplRrca => none
  | .unimplStop => none
  | .unimplLdDeNn => none
  | .ldMemDeA => some (.ldATo .de)
  | .unimplIncDe => none
  | .incD => some (.unary .inc (.reg .d))
  | .decD => some (.unary .dec (.reg .d))
  | .ldDN n => some (.ldImm .d n)
  | .unimplRla => none
  | .unimplJrE => none
  | .unimplAddHlDe => none
  | .ldAMemDe => some (.ldAFrom .de)
  | .unimplDecDe => none
  | .incE => some (.unary .inc (.reg .e))
  | .decE => some (.unary .dec (.reg .e))
  | .ldEN n => some (.ldImm .e n)
  | .unimplRra => none
  | .unimplJrNzE => none
  | .unimplLdHlNn => none
  | .unimplLdMemHlIncA => none
  | .unimplIncHl => none
  | .incH => some (.unary .inc (.reg .h))
  | .decH => some (.unary .dec (.reg .h))
  | .ldHN n => some (.ldImm .h n)
  | .unimplDaa => none
  | .unimplJrZE => none
  | .unimplAddHlHl => none
  | .unimplLdAMemHlInc => none
  | .unimplDecHl => none
  | .incL => some (.unary .inc (.reg .l))
  | .decL => some (.unary .dec (.reg .l))
  | .ldLN n => some (.ldImm .l n)
  | .unimplCpl => none
  | .unimplJrNcE => none
  | .unimplLdSpNn => none
  | .unimplLdMemHlDecA => none
  | .unimplIncSp => none
  | .incMemHl => some (.unary .inc .memHl)
  | .decMemHl => some (.unary .dec .memHl)
  | .unimplLdMemHlN => none
  | .unimplScf => none
  | .unimplJrCE => none
  | .unimplAddHlSp => none
  | .unimplLdAMemHlDec => none
  | .unimplDecSp => none
  | .incA => some (.unary .inc (.reg .a))
  | .decA => some (.unary .dec (.reg .a))
  | .ldAN n => some (.ldImm .a n)
  | .unimplCcf => none
  | .ldBB => some (.ldReg .b .b)
  | .ldBC => some (.ldReg .b .c)
  | .ldBD => some (.ldReg .b .d)
  | .ldBE => some (.ldReg .b .e)
  | .ldBH => some (.ldReg .b .h)
  | .ldBL => some (.ldReg .b .l)
  | .ldBMemHl => some (.ldFromHl .b)
  | .ldBA => some (.ldReg .b .a)
  | .ldCB => some (.ldReg .c .b)
  | .ldCC => some (.ldReg .c .c)
  | .ldCD => some (.ldReg .c .d)
  | .ldCE => some (.ldReg .c .e)
  | .ldCH => some (.ldReg .c .h)
  | .ldCL => some (.ldReg .c .l)
  | .ldCMemHl => some (.ldFromHl .c)
  | .ldCA => some (.ldReg .c .a)
  | .ldDB => some (.ldReg .d .b)
  | .ldDC => some (.ldReg .d .c)
  | .ldDD => some (.ldReg .d .d)
  | .ldDE => some (.ldReg .d .e)
  | .ldDH => some (.ldReg .d .h)
  | .ldDL => some (.ldReg .d .l)
  | .ldDMemHl => some (.ldFromHl .d)
  | .ldDA => some (.ldReg .d .a)
  | .ldEB => some (.ldReg .e .b)
  | .ldEC => some (.ldReg .e .c)
  | .ldED => some (.ldReg .e .d)
  | .ldEE => some (.ldReg .e .e)
  | .ldEH => some (.ldReg .e .h)
  | .ldEL => some (.ldReg .e .l)
  | .ldEMemHl => some (.ldFromHl .e)
  | .ldEA => some (.ldReg .e .a)
  | .ldHB => some (.ldReg .h .b)
  | .ldHC => some (.ldReg .h .c)
  | .ldHD => some (.ldReg .h .d)
  | .ldHE => some (.ldReg .h .e)
  | .ldHH => some (.ldReg .h .h)
  | .ldHL => some (.ldReg .h .l)
  | .ldHMemHl => some (.ldFromHl .h)
  | .ldHA => some (.ldReg .h .a)
  | .ldLB => some (.ldReg .l .b)
  | .ldLC => some (.ldReg .l .c)
  | .ldLD => some (.ldReg .l .d)
  | .ldLE => some (.ldReg .l .e)
  | .ldLH => some (.ldReg .l .h)
  | .ldLL => some (.ldReg .l .l)
  | .ldLMemHl => some (.ldFromHl .l)
  | .ldLA => some (.ldReg .l .a)
  | .ldMemHlB => some (.ldToHl .b)
  | .ldMemHlC => some (.ldToHl .c)
  | .ldMemHlD => some (.ldToHl .d)
  | .ldMemHlE => some (.ldToHl .e)
  | .ldMemHlH => some (.ldToHl .h)
  | .ldMemHlL => some (.ldToHl .l)
  | .unimplHalt => none
  | .ldMemHlA => some (.ldToHl .a)
  | .ldAB => some (.ldReg .a .b)
  | .ldAC => some (.ldReg .a .c)
  | .ldAD => some (.ldReg .a .d)
  | .ldAE => some (.ldReg .a .e)
  | .ldAH => some (.ldReg .a .h)
  | .ldAL => some (.ldReg .a .l)
  | .ldAMemHl => some (.ldFromHl .a)
  | .ldAA => some (.ldReg .a .a)
  | .addAB => some (.alu .add (.reg .b))
  | .addAC => some (.alu .add (.reg .c))
  | .addAD => some (.alu .add (.reg .d))
  | .addAE => some (.alu .add (.reg .e))
  | .addAH => some (.alu .add (.reg .h))
  | .addAL => some (.alu .add (.reg .l))
  | .addAMemHl => some (.alu .add .memHl)
  | .addAA => some (.alu .add (.reg .a))
  | .adcAB => some (.alu .adc (.reg .b))
  | .adcAC => some (.alu .adc (.reg .c))
  | .adcAD => some (.alu .adc (.reg .d))
  | .adcAE => some (.alu .adc (.reg .e))
  | .adcAH => some (.alu .adc (.reg .h))
  | .adcAL => some (.alu .adc (.reg .l))
  | .adcAMemHl => some (.alu .adc .memHl)
  | .adcAA => some (.alu .adc (.reg .a))
  | .subAB => some (.alu .sub (.reg .b))
  | .subAC => some (.alu .sub (.reg .c))
  | .subAD => some (.alu .sub (.reg .d))
  | .subAE => some (.alu .sub (.reg .e))
  | .subAH => some (.alu .sub (.reg .h))
  | .subAL => some (.alu .sub (.reg .l))
  | .subAMemHl => some (.alu .sub .memHl)
  | .subAA => some (.alu .sub (.reg .a))
  | .sbcAB => some (.alu .sbc (.reg .b))
  | .sbcAC => some (.alu .sbc (.reg .c))
  | .sbcAD => some (.alu .sbc (.reg .d))
  | .sbcAE => some (.alu .sbc (.reg .e))
  | .sbcAH => some (.alu .sbc (.reg .h))
  | .sbcAL => some (.alu .sbc (.reg .l))
  | .sbcAMemHl => some (.alu .sbc .memHl)
  | .sbcAA => some (.alu .sbc (.reg .a))
  | .andAB => some (.alu .and (.reg .b))
  | .andAC => some (.alu .and (.reg .c))
  | .andAD => some (.alu .and (.reg .d))
  | .andAE => some (.alu .and (.reg .e))
  | .andAH => some (.alu .and (.reg .h))
  | .andAL => some (.alu .and (.reg .l))
  | .andAMemHl => some (.alu .and .memHl)
  | .andAA => some (.alu .and (.reg .a))
  | .xorAB => some (.alu .xor (.reg .b))
  | .xorAC => some (.alu .xor (.reg .c))
  | .xorAD => some (.alu .xor (.reg .d))
  | .xorAE => some (.alu .xor (.reg .e))
  | .xorAH => some (.alu .xor (.reg .h))
  | .xorAL => some (.alu .xor (.reg .l))
  | .xorAMemHl => some (.alu .xor .memHl)
  | .xorAA => some (.alu .xor (.reg .a))
  | .orAB => some (.alu .or (.reg .b))
  | .orAC => some (.alu .or (.reg .c))
  | .orAD => some (.alu .or (.reg .d))
  | .orAE => some (.alu .or (.reg .e))
  | .orAH => some (.alu .or (.reg .h))
  | .orAL => some (.alu .or (.reg .l))
  | .orAMemHl => some (.alu .or .memHl)
  | .orAA => some (.alu .or (.reg .a))
  | .unimplCpB => none
  | .unimplCpC => none
  | .unimplCpD => none
  | .unimplCpE => none
  | .unimplCpH => none
  | .unimplCpL => none
  | .unimplCpMemHl => none
  | .unimplCpA => none
  | .unimplRetNz => none
  | .popBc => some (.pop .bc)
  | .unimplJpNzNn => none
  | .unimplJpNn => none
  | .unimplCallNzNn => none
  | .pushBc => some (.push .bc)
  | .addAN n => some (.aluImm .add n)
  | .rst00 => some (.rst .o0)
  | .unimplRetZ => none
  | .unimplRet => none
  | .unimplJpZNn => none
  | .prefixCb _ => none
  | .unimplCallZNn => none
  | .unimplCallNn => none
  | .adcAN n => some (.aluImm .adc n)
  | .rst08 => some (.rst .o1)
  | .unimplRetNc => none
  | .popDe => some (.pop .de)
  | .unimplJpNcNn => none
  | .invalidD3 => none
  | .unimplCallNcNn => none
  | .pushDe => some (.push .de)
  | .subAN n => some (.aluImm .sub n)
  | .rst10 => some (.rst .o2)
  | .unimplRetC => none
  | .unimplReti => none
  | .unimplJpCNn => none
  | .invalidDB => none
  | .unimplCallCNn => none
  | .invalidDD => none
  | .sbcAN n => some (.aluImm .sbc n)
  | .rst18 => some (.rst .o3)
  | .unimplLdhMemNA => none
  | .popHl => some (.pop .hl)
  | .unimplLdMemCA => none
  | .invalidE3 => none
  | .invalidE4 => none
  | .pushHl => some (.push .hl)
  | .andAN n => some (.aluImm .and n)
  | .rst20 => some (.rst .o4)
  | .unimplAddSpE => none
  | .unimplJpHl => none
  | .unimplLdMemNnA => none
  | .invalidEB => none
  | .invalidEC => none
  | .invalidED => none
  | .xorAN n => some (.aluImm .xor n)
  | .rst28 => some (.rst .o5)
  | .unimplLdhAMemN => none
  | .popAf => some (.pop .af)
  | .unimplLdAMemC => none
  | .unimplDi => none
  | .invalidF4 => none
  | .pushAf => some (.push .af)
  | .orAN n => some (.aluImm .or n)
  | .rst30 => some (.rst .o6)
  | .unimplLdHlSpPlusE => none
  | .unimplLdSpHl => none
  | .unimplLdAMemNn => none
  | .unimplEi => none
  | .invalidFC => none
  | .invalidFD => none
  | .unimplCpN => none
  | .rst38 => some (.rst .o7)
  | .unimplRlcB => none
  | .unimplRlcC => none
  | .unimplRlcD => none
  | .unimplRlcE => none
  | .unimplRlcH => none
  | .unimplRlcL => none
  | .unimplRlcMemHl => none
  | .unimplRlcA => none
  | .unimplRrcB => none
  | .unimplRrcC => none
  | .unimplRrcD => none
  | .unimplRrcE => none
  | .unimplRrcH => none
  | .unimplRrcL => none
  | .unimplRrcMemHl => none
  | .unimplRrcA => none
  | .unimplRlB => none
  | .unimplRlC => none
  | .unimplRlD => none
  | .unimplRlE => none
  | .unimplRlH => none
  | .unimplRlL => none
  | .unimplRlMemHl => none
  | .unimplRlA => none
  | .unimplRrB => none
  | .unimplRrC => none
  | .unimplRrD => none
  | .unimplRrE => none
  | .unimplRrH => none
  | .unimplRrL => none
  | .unimplRrMemHl => none
  | .unimplRrA => none
  | .unimplSlaB => none
  | .unimplSlaC => none
  | .unimplSlaD => none
  | .unimplSlaE => none
  | .unimplSlaH => none
  | .unimplSlaL => none
  | .unimplSlaMemHl => none
  | .unimplSlaA => none
  | .unimplSraB => none
  | .unimplSraC => none
  | .unimplSraD => none
  | .unimplSraE => none
  | .unimplSraH => none
  | .unimplSraL => none
  | .unimplSraMemHl => none
  | .unimplSraA => none
  | .swapB => some (.unary .swap (.reg .b))
  | .swapC => some (.unary .swap (.reg .c))
  | .swapD => some (.unary .swap (.reg .d))
  | .swapE => some (.unary .swap (.reg .e))
  | .swapH => some (.unary .swap (.reg .h))
  | .swapL => some (.unary .swap (.reg .l))
  | .swapMemHl => some (.unary .swap .memHl)
  | .swapA => some (.unary .swap (.reg .a))
  | .unimplSrlB => none
  | .unimplSrlC => none
  | .unimplSrlD => none
  | .unimplSrlE => none
  | .unimplSrlH => none
  | .unimplSrlL => none
  | .unimplSrlMemHl => none
  | .unimplSrlA => none
  | .bit0B => some (.bitOp .test .o0 (.reg .b))
  | .bit0C => some (.bitOp .test .o0 (.reg .c))
  | .bit0D => some (.bitOp .test .o0 (.reg .d))
  | .bit0E => some (.bitOp .test .o0 (.reg .e))
  | .bit0H => some (.bitOp .test .o0 (.reg .h))
  | .bit0L => some (.bitOp .test .o0 (.reg .l))
  | .bit0MemHl => some (.bitOp .test .o0 .memHl)
  | .bit0A => some (.bitOp .test .o0 (.reg .a))
  | .bit1B => some (.bitOp .test .o1 (.reg .b))
  | .bit1C => some (.bitOp .test .o1 (.reg .c))
  | .bit1D => some (.bitOp .test .o1 (.reg .d))
  | .bit1E => some (.bitOp .test .o1 (.reg .e))
  | .bit1H => some (.bitOp .test .o1 (.reg .h))
  | .bit1L => some (.bitOp .test .o1 (.reg .l))
  | .bit1MemHl => some (.bitOp .test .o1 .memHl)
  | .bit1A => some (.bitOp .test .o1 (.reg .a))
  | .bit2B => some (.bitOp .test .o2 (.reg .b))
  | .bit2C => some (.bitOp .test .o2 (.reg .c))
  | .bit2D => some (.bitOp .test .o2 (.reg .d))
  | .bit2E => some (.bitOp .test .o2 (.reg .e))
  | .bit2H => some (.bitOp .test .o2 (.reg .h))
  | .bit2L => some (.bitOp .test .o2 (.reg .l))
  | .bit2MemHl => some (.bitOp .test .o2 .memHl)
  | .bit2A => some (.bitOp .test .o2 (.reg .a))
  | .bit3B => some (.bitOp .test .o3 (.reg .b))
  | .bit3C => some (.bitOp .test .o3 (.reg .c))
  | .bit3D => some (.bitOp .test .o3 (.reg .d))
  | .bit3E => some (.bitOp .test .o3 (.reg .e))
  | .bit3H => some (.bitOp .test .o3 (.reg .h))
  | .bit3L => some (.bitOp .test .o3 (.reg .l))
  | .bit3MemHl => some (.bitOp .test .o3 .memHl)
  | .bit3A => some (.bitOp .test .o3 (.reg .a))
  | .bit4B => some (.bitOp .test .o4 (.reg .b))
  | .bit4C => some (.bitOp .test .o4 (.reg .c))
  | .bit4D => some (.bitOp .test .o4 (.reg .d))
  | .bit4E => some (.bitOp .test .o4 (.reg .e))
  | .bit4H => some (.bitOp .test .o4 (.reg .h))
  | .bit4L => some (.bitOp .test .o4 (.reg .l))
  | .bit4MemHl => some (.bitOp .test .o4 .memHl)
  | .bit4A => some (.bitOp .test .o4 (.reg .a))
  | .bit5B => some (.bitOp .test .o5 (.reg .b))
  | .bit5C => some (.bitOp .test .o5 (.reg .c))
  | .bit5D => some (.bitOp .test .o5 (.reg .d))
  | .bit5E => some (.bitOp .test .o5 (.reg .e))
  | .bit5H => some (.bitOp .test .o5 (.reg .h))
  | .bit5L => some (.bitOp .test .o5 (.reg .l))
  | .bit5MemHl => some (.bitOp .test .o5 .memHl)
  | .bit5A => some (.bitOp .test .o5 (.reg .a))
  | .bit6B => some (.bitOp .test .o6 (.reg .b))
  | .bit6C => some (.bitOp .test .o6 (.reg .c))
  | .bit6D => some (.bitOp .test .o6 (.reg .d))
  | .bit6E => some (.bitOp .test .o6 (.reg .e))
  | .bit6H => some (.bitOp .test .o6 (.reg .h))
  | .bit6L => some (.bitOp .test .o6 (.reg .l))
  | .bit6MemHl => some (.bitOp .test .o6 .memHl)
  | .bit6A => some (.bitOp .test .o6 (.reg .a))
  | .bit7B => some (.bitOp .test .o7 (.reg .b))
  | .bit7C => some (.bitOp .test .o7 (.reg .c))
  | .bit7D => some (.bitOp .test .o7 (.reg .d))
  | .bit7E => some (.bitOp .test .o7 (.reg .e))
  | .bit7H => some (.bitOp .test .o7 (.reg .h))
  | .bit7L => some (.bitOp .test .o7 (.reg .l))
  | .bit7MemHl => some (.bitOp .test .o7 .memHl)
  | .bit7A => some (.bitOp .test .o7 (.reg .a))
  | .res0B => some (.bitOp .reset .o0 (.reg .b))
  | .res0C => some (.bitOp .reset .o0 (.reg .c))
  | .res0D => some (.bitOp .reset .o0 (.reg .d))
  | .res0E => some (.bitOp .reset .o0 (.reg .e))
  | .res0H => some (.bitOp .reset .o0 (.reg .h))
  | .res0L => some (.bitOp .reset .o0 (.reg .l))
  | .res0MemHl => some (.bitOp .reset .o0 .memHl)
  | .res0A => some (.bitOp .reset .o0 (.reg .a))
  | .res1B => some (.bitOp .reset .o1 (.reg .b))
  | .res1C => some (.bitOp .reset .o1 (.reg .c))
  | .res1D => some (.bitOp .reset .o1 (.reg .d))
  | .res1E => some (.bitOp .reset .o1 (.reg .e))
  | .res1H => some (.bitOp .reset .o1 (.reg .h))
  | .res1L => some (.bitOp .reset .o1 (.reg .l))
  | .res1MemHl => some (.bitOp .reset .o1 .memHl)
  | .res1A => some (.bitOp .reset .o1 (.reg .a))
  | .res2B => some (.bitOp .reset .o2 (.reg .b))
  | .res2C => some (.bitOp .reset .o2 (.reg .c))
  | .res2D => some (.bitOp .reset .o2 (.reg .d))
  | .res2E => some (.bitOp .reset .o2 (.reg .e))
  | .res2H => some (.bitOp .reset .o2 (.reg .h))
  | .res2L => some (.bitOp .reset .o2 (.reg .l))
  | .res2MemHl => some (.bitOp .reset .o2 .memHl)
  | .res2A => some (.bitOp .reset .o2 (.reg .a))
  | .res3B => some (.bitOp .reset .o3 (.reg .b))
  | .res3C => some (.bitOp .reset .o3 (.reg .c))
  | .res3D => some (.bitOp .reset .o3 (.reg .d))
  | .res3E => some (.bitOp .reset .o3 (.reg .e))
  | .res3H => some (.bitOp .reset .o3 (.reg .h))
  | .res3L => some (.bitOp .reset .o3 (.reg .l))
  | .res3MemHl => some (.bitOp .reset .o3 .memHl)
  | .res3A => some (.bitOp .reset .o3 (.reg .a))
  | .res4B => some (.bitOp .reset .o4 (.reg .b))
  | .res4C => some (.bitOp .reset .o4 (.reg .c))
  | .res4D => some (.bitOp .reset .o4 (.reg .d))
  | .res4E => some (.bitOp .reset .o4 (.reg .e))
  | .res4H => some (.bitOp .reset .o4 (.reg .h))
  | .res4L => some (.bitOp .reset .o4 (.reg .l))
  | .res4MemHl => some (.bitOp .reset .o4 .memHl)
  | .res4A => some (.bitOp .reset .o4 (.reg .a))
  | .res5B => some (.bitOp .reset .o5 (.reg .b))
  | .res5C => some (.bitOp .reset .o5 (.reg .c))
  | .res5D => some (.bitOp .reset .o5 (.reg .d))
  | .res5E => some (.bitOp .reset .o5 (.reg .e))
  | .res5H => some (.bitOp .reset .o5 (.reg .h))
  | .res5L => some (.bitOp .reset .o5 (.reg .l))
  | .res5MemHl => some (.bitOp .reset .o5 .memHl)
  | .res5A => some (.bitOp .reset .o5 (.reg .a))
  | .res6B => some (.bitOp .reset .o6 (.reg .b))
  | .res6C => some (.bitOp .reset .o6 (.reg .c))
  | .res6D => some (.bitOp .reset .o6 (.reg .d))
  | .res6E => some (.bitOp .reset .o6 (.reg .e))
  | .res6H => some (.bitOp .reset .o6 (.reg .h))
  | .res6L => some (.bitOp .reset .o6 (.reg .l))
  | .res6MemHl => some (.bitOp .reset .o6 .memHl)
  | .res6A => some (.bitOp .reset .o6 (.reg .a))
  | .res7B => some (.bitOp .reset .o7 (.reg .b))
  | .res7C => some (.bitOp .reset .o7 (.reg .c))
  | .res7D => some (.bitOp .reset .o7 (.reg .d))
  | .res7E => some (.bitOp .reset .o7 (.reg .e))
  | .res7H => some (.bitOp .reset .o7 (.reg .h))
  | .res7L => some (.bitOp .reset .o7 (.reg .l))
  | .res7MemHl => some (.bitOp .reset .o7 .memHl)
  | .res7A => some (.bitOp .reset .o7 (.reg .a))
  | .set0B => some (.bitOp .set .o0 (.reg .b))
  | .set0C => some (.bitOp .set .o0 (.reg .c))
  | .set0D => some (.bitOp .set .o0 (.reg .d))
  | .set0E => some (.bitOp .set .o0 (.reg .e))
  | .set0H => some (.bitOp .set .o0 (.reg .h))
  | .set0L => some (.bitOp .set .o0 (.reg .l))
  | .set0MemHl => some (.bitOp .set .o0 .memHl)
  | .set0A => some (.bitOp .set .o0 (.reg .a))
  | .set1B => some (.bitOp .set .o1 (.reg .b))
  | .set1C => some (.bitOp .set .o1 (.reg .c))
  | .set1D => some (.bitOp .set .o1 (.reg .d))
  | .set1E => some (.bitOp .set .o1 (.reg .e))
  | .set1H => some (.bitOp .set .o1 (.reg .h))
  | .set1L => some (.bitOp .set .o1 (.reg .l))
  | .set1MemHl => some (.bitOp .set .o1 .memHl)
  | .set1A => some (.bitOp .set .o1 (.reg .a))
  | .set2B => some (.bitOp .set .o2 (.reg .b))
  | .set2C => some (.bitOp .set .o2 (.reg .c))
  | .set2D => some (.bitOp .set .o2 (.reg .d))
  | .set2E => some (.bitOp .set .o2 (.reg .e))
  | .set2H => some (.bitOp .set .o2 (.reg .h))
  | .set2L => some (.bitOp .set .o2 (.reg .l))
  | .set2MemHl => some (.bitOp .set .o2 .memHl)
  | .set2A => some (.bitOp .set .o2 (.reg .a))
  | .set3B => some (.bitOp .set .o3 (.reg .b))
  | .set3C => some (.bitOp .set .o3 (.reg .c))
  | .set3D => some (.bitOp .set .o3 (.reg .d))
  | .set3E => some (.bitOp .set .o3 (.reg .e))
  | .set3H => some (.bitOp .set .o3 (.reg .h))
  | .set3L => some (.bitOp .set .o3 (.reg .l))
  | .set3MemHl => some (.bitOp .set .o3 .memHl)
  | .set3A => some (.bitOp .set .o3 (.reg .a))
  | .set4B => some (.bitOp .set .o4 (.reg .b))
  | .set4C => some (.bitOp .set .o4 (.reg .c))
  | .set4D => some (.bitOp .set .o4 (.reg .d))
  | .set4E => some (.bitOp .set .o4 (.reg .e))
  | .set4H => some (.bitOp .set .o4 (.reg .h))
  | .set4L => some (.bitOp .set .o4 (.reg .l))
  | .set4MemHl => some (.bitOp .set .o4 .memHl)
  | .set4A => some (.bitOp .set .o4 (.reg .a))
  | .set5B => some (.bitOp .set .o5 (.reg .b))
  | .set5C => some (.bitOp .set .o5 (.reg .c))
  | .set5D => some (.bitOp .set .o5 (.reg .d))
  | .set5E => some (.bitOp .set .o5 (.reg .e))
  | .set5H => some (.bitOp .set .o5 (.reg .h))
  | .set5L => some (.bitOp .set .o5 (.reg .l))
  | .set5MemHl => some (.bitOp .set .o5 .memHl)
  | .set5A => some (.bitOp .set .o5 (.reg .a))
  | .set6B => some (.bitOp .set .o6 (.reg .b))
  | .set6C => some (.bitOp .set .o6 (.reg .c))
  | .set6D => some (.bitOp .set .o6 (.reg .d))
  | .set6E => some (.bitOp .set .o6 (.reg .e))
  | .set6H => some (.bitOp .set .o6 (.reg .h))
  | .set6L => some (.bitOp .set .o6 (.reg .l))
  | .set6MemHl => some (.bitOp .set .o6 .memHl)
  | .set6A => some (.bitOp .set .o6 (.reg .a))
  | .set7B => some (.bitOp .set .o7 (.reg .b))
  | .set7C => some (.bitOp .set .o7 (.reg .c))
  | .set7D => some (.bitOp .set .o7 (.reg .d))
  | .set7E => some (.bitOp .set .o7 (.reg .e))
  | .set7H => some (.bitOp .set .o7 (.reg .h))
  | .set7L => some (.bitOp .set .o7 (.reg .l))
  | .set7MemHl => some (.bitOp .set .o7 .memHl)
  | .set7A => some (.bitOp .set .o7 (.reg .a))

/-- The row of a form and fields (30_encoding.md R82, R83). -/
def Form.instr : Form → Instr
  | .nop => .nop
  | .ldATo .bc => .ldMemBcA
  | .unary .inc (.reg .b) => .incB
  | .unary .dec (.reg .b) => .decB
  | .ldImm .b n => .ldBN n
  | .ldAFrom .bc => .ldAMemBc
  | .unary .inc (.reg .c) => .incC
  | .unary .dec (.reg .c) => .decC
  | .ldImm .c n => .ldCN n
  | .ldATo .de => .ldMemDeA
  | .unary .inc (.reg .d) => .incD
  | .unary .dec (.reg .d) => .decD
  | .ldImm .d n => .ldDN n
  | .ldAFrom .de => .ldAMemDe
  | .unary .inc (.reg .e) => .incE
  | .unary .dec (.reg .e) => .decE
  | .ldImm .e n => .ldEN n
  | .unary .inc (.reg .h) => .incH
  | .unary .dec (.reg .h) => .decH
  | .ldImm .h n => .ldHN n
  | .unary .inc (.reg .l) => .incL
  | .unary .dec (.reg .l) => .decL
  | .ldImm .l n => .ldLN n
  | .unary .inc .memHl => .incMemHl
  | .unary .dec .memHl => .decMemHl
  | .unary .inc (.reg .a) => .incA
  | .unary .dec (.reg .a) => .decA
  | .ldImm .a n => .ldAN n
  | .ldReg .b .b => .ldBB
  | .ldReg .b .c => .ldBC
  | .ldReg .b .d => .ldBD
  | .ldReg .b .e => .ldBE
  | .ldReg .b .h => .ldBH
  | .ldReg .b .l => .ldBL
  | .ldFromHl .b => .ldBMemHl
  | .ldReg .b .a => .ldBA
  | .ldReg .c .b => .ldCB
  | .ldReg .c .c => .ldCC
  | .ldReg .c .d => .ldCD
  | .ldReg .c .e => .ldCE
  | .ldReg .c .h => .ldCH
  | .ldReg .c .l => .ldCL
  | .ldFromHl .c => .ldCMemHl
  | .ldReg .c .a => .ldCA
  | .ldReg .d .b => .ldDB
  | .ldReg .d .c => .ldDC
  | .ldReg .d .d => .ldDD
  | .ldReg .d .e => .ldDE
  | .ldReg .d .h => .ldDH
  | .ldReg .d .l => .ldDL
  | .ldFromHl .d => .ldDMemHl
  | .ldReg .d .a => .ldDA
  | .ldReg .e .b => .ldEB
  | .ldReg .e .c => .ldEC
  | .ldReg .e .d => .ldED
  | .ldReg .e .e => .ldEE
  | .ldReg .e .h => .ldEH
  | .ldReg .e .l => .ldEL
  | .ldFromHl .e => .ldEMemHl
  | .ldReg .e .a => .ldEA
  | .ldReg .h .b => .ldHB
  | .ldReg .h .c => .ldHC
  | .ldReg .h .d => .ldHD
  | .ldReg .h .e => .ldHE
  | .ldReg .h .h => .ldHH
  | .ldReg .h .l => .ldHL
  | .ldFromHl .h => .ldHMemHl
  | .ldReg .h .a => .ldHA
  | .ldReg .l .b => .ldLB
  | .ldReg .l .c => .ldLC
  | .ldReg .l .d => .ldLD
  | .ldReg .l .e => .ldLE
  | .ldReg .l .h => .ldLH
  | .ldReg .l .l => .ldLL
  | .ldFromHl .l => .ldLMemHl
  | .ldReg .l .a => .ldLA
  | .ldToHl .b => .ldMemHlB
  | .ldToHl .c => .ldMemHlC
  | .ldToHl .d => .ldMemHlD
  | .ldToHl .e => .ldMemHlE
  | .ldToHl .h => .ldMemHlH
  | .ldToHl .l => .ldMemHlL
  | .ldToHl .a => .ldMemHlA
  | .ldReg .a .b => .ldAB
  | .ldReg .a .c => .ldAC
  | .ldReg .a .d => .ldAD
  | .ldReg .a .e => .ldAE
  | .ldReg .a .h => .ldAH
  | .ldReg .a .l => .ldAL
  | .ldFromHl .a => .ldAMemHl
  | .ldReg .a .a => .ldAA
  | .alu .add (.reg .b) => .addAB
  | .alu .add (.reg .c) => .addAC
  | .alu .add (.reg .d) => .addAD
  | .alu .add (.reg .e) => .addAE
  | .alu .add (.reg .h) => .addAH
  | .alu .add (.reg .l) => .addAL
  | .alu .add .memHl => .addAMemHl
  | .alu .add (.reg .a) => .addAA
  | .alu .adc (.reg .b) => .adcAB
  | .alu .adc (.reg .c) => .adcAC
  | .alu .adc (.reg .d) => .adcAD
  | .alu .adc (.reg .e) => .adcAE
  | .alu .adc (.reg .h) => .adcAH
  | .alu .adc (.reg .l) => .adcAL
  | .alu .adc .memHl => .adcAMemHl
  | .alu .adc (.reg .a) => .adcAA
  | .alu .sub (.reg .b) => .subAB
  | .alu .sub (.reg .c) => .subAC
  | .alu .sub (.reg .d) => .subAD
  | .alu .sub (.reg .e) => .subAE
  | .alu .sub (.reg .h) => .subAH
  | .alu .sub (.reg .l) => .subAL
  | .alu .sub .memHl => .subAMemHl
  | .alu .sub (.reg .a) => .subAA
  | .alu .sbc (.reg .b) => .sbcAB
  | .alu .sbc (.reg .c) => .sbcAC
  | .alu .sbc (.reg .d) => .sbcAD
  | .alu .sbc (.reg .e) => .sbcAE
  | .alu .sbc (.reg .h) => .sbcAH
  | .alu .sbc (.reg .l) => .sbcAL
  | .alu .sbc .memHl => .sbcAMemHl
  | .alu .sbc (.reg .a) => .sbcAA
  | .alu .and (.reg .b) => .andAB
  | .alu .and (.reg .c) => .andAC
  | .alu .and (.reg .d) => .andAD
  | .alu .and (.reg .e) => .andAE
  | .alu .and (.reg .h) => .andAH
  | .alu .and (.reg .l) => .andAL
  | .alu .and .memHl => .andAMemHl
  | .alu .and (.reg .a) => .andAA
  | .alu .xor (.reg .b) => .xorAB
  | .alu .xor (.reg .c) => .xorAC
  | .alu .xor (.reg .d) => .xorAD
  | .alu .xor (.reg .e) => .xorAE
  | .alu .xor (.reg .h) => .xorAH
  | .alu .xor (.reg .l) => .xorAL
  | .alu .xor .memHl => .xorAMemHl
  | .alu .xor (.reg .a) => .xorAA
  | .alu .or (.reg .b) => .orAB
  | .alu .or (.reg .c) => .orAC
  | .alu .or (.reg .d) => .orAD
  | .alu .or (.reg .e) => .orAE
  | .alu .or (.reg .h) => .orAH
  | .alu .or (.reg .l) => .orAL
  | .alu .or .memHl => .orAMemHl
  | .alu .or (.reg .a) => .orAA
  | .pop .bc => .popBc
  | .push .bc => .pushBc
  | .aluImm .add n => .addAN n
  | .rst .o0 => .rst00
  | .aluImm .adc n => .adcAN n
  | .rst .o1 => .rst08
  | .pop .de => .popDe
  | .push .de => .pushDe
  | .aluImm .sub n => .subAN n
  | .rst .o2 => .rst10
  | .aluImm .sbc n => .sbcAN n
  | .rst .o3 => .rst18
  | .pop .hl => .popHl
  | .push .hl => .pushHl
  | .aluImm .and n => .andAN n
  | .rst .o4 => .rst20
  | .aluImm .xor n => .xorAN n
  | .rst .o5 => .rst28
  | .pop .af => .popAf
  | .push .af => .pushAf
  | .aluImm .or n => .orAN n
  | .rst .o6 => .rst30
  | .rst .o7 => .rst38
  | .unary .swap (.reg .b) => .swapB
  | .unary .swap (.reg .c) => .swapC
  | .unary .swap (.reg .d) => .swapD
  | .unary .swap (.reg .e) => .swapE
  | .unary .swap (.reg .h) => .swapH
  | .unary .swap (.reg .l) => .swapL
  | .unary .swap .memHl => .swapMemHl
  | .unary .swap (.reg .a) => .swapA
  | .bitOp .test .o0 (.reg .b) => .bit0B
  | .bitOp .test .o0 (.reg .c) => .bit0C
  | .bitOp .test .o0 (.reg .d) => .bit0D
  | .bitOp .test .o0 (.reg .e) => .bit0E
  | .bitOp .test .o0 (.reg .h) => .bit0H
  | .bitOp .test .o0 (.reg .l) => .bit0L
  | .bitOp .test .o0 .memHl => .bit0MemHl
  | .bitOp .test .o0 (.reg .a) => .bit0A
  | .bitOp .test .o1 (.reg .b) => .bit1B
  | .bitOp .test .o1 (.reg .c) => .bit1C
  | .bitOp .test .o1 (.reg .d) => .bit1D
  | .bitOp .test .o1 (.reg .e) => .bit1E
  | .bitOp .test .o1 (.reg .h) => .bit1H
  | .bitOp .test .o1 (.reg .l) => .bit1L
  | .bitOp .test .o1 .memHl => .bit1MemHl
  | .bitOp .test .o1 (.reg .a) => .bit1A
  | .bitOp .test .o2 (.reg .b) => .bit2B
  | .bitOp .test .o2 (.reg .c) => .bit2C
  | .bitOp .test .o2 (.reg .d) => .bit2D
  | .bitOp .test .o2 (.reg .e) => .bit2E
  | .bitOp .test .o2 (.reg .h) => .bit2H
  | .bitOp .test .o2 (.reg .l) => .bit2L
  | .bitOp .test .o2 .memHl => .bit2MemHl
  | .bitOp .test .o2 (.reg .a) => .bit2A
  | .bitOp .test .o3 (.reg .b) => .bit3B
  | .bitOp .test .o3 (.reg .c) => .bit3C
  | .bitOp .test .o3 (.reg .d) => .bit3D
  | .bitOp .test .o3 (.reg .e) => .bit3E
  | .bitOp .test .o3 (.reg .h) => .bit3H
  | .bitOp .test .o3 (.reg .l) => .bit3L
  | .bitOp .test .o3 .memHl => .bit3MemHl
  | .bitOp .test .o3 (.reg .a) => .bit3A
  | .bitOp .test .o4 (.reg .b) => .bit4B
  | .bitOp .test .o4 (.reg .c) => .bit4C
  | .bitOp .test .o4 (.reg .d) => .bit4D
  | .bitOp .test .o4 (.reg .e) => .bit4E
  | .bitOp .test .o4 (.reg .h) => .bit4H
  | .bitOp .test .o4 (.reg .l) => .bit4L
  | .bitOp .test .o4 .memHl => .bit4MemHl
  | .bitOp .test .o4 (.reg .a) => .bit4A
  | .bitOp .test .o5 (.reg .b) => .bit5B
  | .bitOp .test .o5 (.reg .c) => .bit5C
  | .bitOp .test .o5 (.reg .d) => .bit5D
  | .bitOp .test .o5 (.reg .e) => .bit5E
  | .bitOp .test .o5 (.reg .h) => .bit5H
  | .bitOp .test .o5 (.reg .l) => .bit5L
  | .bitOp .test .o5 .memHl => .bit5MemHl
  | .bitOp .test .o5 (.reg .a) => .bit5A
  | .bitOp .test .o6 (.reg .b) => .bit6B
  | .bitOp .test .o6 (.reg .c) => .bit6C
  | .bitOp .test .o6 (.reg .d) => .bit6D
  | .bitOp .test .o6 (.reg .e) => .bit6E
  | .bitOp .test .o6 (.reg .h) => .bit6H
  | .bitOp .test .o6 (.reg .l) => .bit6L
  | .bitOp .test .o6 .memHl => .bit6MemHl
  | .bitOp .test .o6 (.reg .a) => .bit6A
  | .bitOp .test .o7 (.reg .b) => .bit7B
  | .bitOp .test .o7 (.reg .c) => .bit7C
  | .bitOp .test .o7 (.reg .d) => .bit7D
  | .bitOp .test .o7 (.reg .e) => .bit7E
  | .bitOp .test .o7 (.reg .h) => .bit7H
  | .bitOp .test .o7 (.reg .l) => .bit7L
  | .bitOp .test .o7 .memHl => .bit7MemHl
  | .bitOp .test .o7 (.reg .a) => .bit7A
  | .bitOp .reset .o0 (.reg .b) => .res0B
  | .bitOp .reset .o0 (.reg .c) => .res0C
  | .bitOp .reset .o0 (.reg .d) => .res0D
  | .bitOp .reset .o0 (.reg .e) => .res0E
  | .bitOp .reset .o0 (.reg .h) => .res0H
  | .bitOp .reset .o0 (.reg .l) => .res0L
  | .bitOp .reset .o0 .memHl => .res0MemHl
  | .bitOp .reset .o0 (.reg .a) => .res0A
  | .bitOp .reset .o1 (.reg .b) => .res1B
  | .bitOp .reset .o1 (.reg .c) => .res1C
  | .bitOp .reset .o1 (.reg .d) => .res1D
  | .bitOp .reset .o1 (.reg .e) => .res1E
  | .bitOp .reset .o1 (.reg .h) => .res1H
  | .bitOp .reset .o1 (.reg .l) => .res1L
  | .bitOp .reset .o1 .memHl => .res1MemHl
  | .bitOp .reset .o1 (.reg .a) => .res1A
  | .bitOp .reset .o2 (.reg .b) => .res2B
  | .bitOp .reset .o2 (.reg .c) => .res2C
  | .bitOp .reset .o2 (.reg .d) => .res2D
  | .bitOp .reset .o2 (.reg .e) => .res2E
  | .bitOp .reset .o2 (.reg .h) => .res2H
  | .bitOp .reset .o2 (.reg .l) => .res2L
  | .bitOp .reset .o2 .memHl => .res2MemHl
  | .bitOp .reset .o2 (.reg .a) => .res2A
  | .bitOp .reset .o3 (.reg .b) => .res3B
  | .bitOp .reset .o3 (.reg .c) => .res3C
  | .bitOp .reset .o3 (.reg .d) => .res3D
  | .bitOp .reset .o3 (.reg .e) => .res3E
  | .bitOp .reset .o3 (.reg .h) => .res3H
  | .bitOp .reset .o3 (.reg .l) => .res3L
  | .bitOp .reset .o3 .memHl => .res3MemHl
  | .bitOp .reset .o3 (.reg .a) => .res3A
  | .bitOp .reset .o4 (.reg .b) => .res4B
  | .bitOp .reset .o4 (.reg .c) => .res4C
  | .bitOp .reset .o4 (.reg .d) => .res4D
  | .bitOp .reset .o4 (.reg .e) => .res4E
  | .bitOp .reset .o4 (.reg .h) => .res4H
  | .bitOp .reset .o4 (.reg .l) => .res4L
  | .bitOp .reset .o4 .memHl => .res4MemHl
  | .bitOp .reset .o4 (.reg .a) => .res4A
  | .bitOp .reset .o5 (.reg .b) => .res5B
  | .bitOp .reset .o5 (.reg .c) => .res5C
  | .bitOp .reset .o5 (.reg .d) => .res5D
  | .bitOp .reset .o5 (.reg .e) => .res5E
  | .bitOp .reset .o5 (.reg .h) => .res5H
  | .bitOp .reset .o5 (.reg .l) => .res5L
  | .bitOp .reset .o5 .memHl => .res5MemHl
  | .bitOp .reset .o5 (.reg .a) => .res5A
  | .bitOp .reset .o6 (.reg .b) => .res6B
  | .bitOp .reset .o6 (.reg .c) => .res6C
  | .bitOp .reset .o6 (.reg .d) => .res6D
  | .bitOp .reset .o6 (.reg .e) => .res6E
  | .bitOp .reset .o6 (.reg .h) => .res6H
  | .bitOp .reset .o6 (.reg .l) => .res6L
  | .bitOp .reset .o6 .memHl => .res6MemHl
  | .bitOp .reset .o6 (.reg .a) => .res6A
  | .bitOp .reset .o7 (.reg .b) => .res7B
  | .bitOp .reset .o7 (.reg .c) => .res7C
  | .bitOp .reset .o7 (.reg .d) => .res7D
  | .bitOp .reset .o7 (.reg .e) => .res7E
  | .bitOp .reset .o7 (.reg .h) => .res7H
  | .bitOp .reset .o7 (.reg .l) => .res7L
  | .bitOp .reset .o7 .memHl => .res7MemHl
  | .bitOp .reset .o7 (.reg .a) => .res7A
  | .bitOp .set .o0 (.reg .b) => .set0B
  | .bitOp .set .o0 (.reg .c) => .set0C
  | .bitOp .set .o0 (.reg .d) => .set0D
  | .bitOp .set .o0 (.reg .e) => .set0E
  | .bitOp .set .o0 (.reg .h) => .set0H
  | .bitOp .set .o0 (.reg .l) => .set0L
  | .bitOp .set .o0 .memHl => .set0MemHl
  | .bitOp .set .o0 (.reg .a) => .set0A
  | .bitOp .set .o1 (.reg .b) => .set1B
  | .bitOp .set .o1 (.reg .c) => .set1C
  | .bitOp .set .o1 (.reg .d) => .set1D
  | .bitOp .set .o1 (.reg .e) => .set1E
  | .bitOp .set .o1 (.reg .h) => .set1H
  | .bitOp .set .o1 (.reg .l) => .set1L
  | .bitOp .set .o1 .memHl => .set1MemHl
  | .bitOp .set .o1 (.reg .a) => .set1A
  | .bitOp .set .o2 (.reg .b) => .set2B
  | .bitOp .set .o2 (.reg .c) => .set2C
  | .bitOp .set .o2 (.reg .d) => .set2D
  | .bitOp .set .o2 (.reg .e) => .set2E
  | .bitOp .set .o2 (.reg .h) => .set2H
  | .bitOp .set .o2 (.reg .l) => .set2L
  | .bitOp .set .o2 .memHl => .set2MemHl
  | .bitOp .set .o2 (.reg .a) => .set2A
  | .bitOp .set .o3 (.reg .b) => .set3B
  | .bitOp .set .o3 (.reg .c) => .set3C
  | .bitOp .set .o3 (.reg .d) => .set3D
  | .bitOp .set .o3 (.reg .e) => .set3E
  | .bitOp .set .o3 (.reg .h) => .set3H
  | .bitOp .set .o3 (.reg .l) => .set3L
  | .bitOp .set .o3 .memHl => .set3MemHl
  | .bitOp .set .o3 (.reg .a) => .set3A
  | .bitOp .set .o4 (.reg .b) => .set4B
  | .bitOp .set .o4 (.reg .c) => .set4C
  | .bitOp .set .o4 (.reg .d) => .set4D
  | .bitOp .set .o4 (.reg .e) => .set4E
  | .bitOp .set .o4 (.reg .h) => .set4H
  | .bitOp .set .o4 (.reg .l) => .set4L
  | .bitOp .set .o4 .memHl => .set4MemHl
  | .bitOp .set .o4 (.reg .a) => .set4A
  | .bitOp .set .o5 (.reg .b) => .set5B
  | .bitOp .set .o5 (.reg .c) => .set5C
  | .bitOp .set .o5 (.reg .d) => .set5D
  | .bitOp .set .o5 (.reg .e) => .set5E
  | .bitOp .set .o5 (.reg .h) => .set5H
  | .bitOp .set .o5 (.reg .l) => .set5L
  | .bitOp .set .o5 .memHl => .set5MemHl
  | .bitOp .set .o5 (.reg .a) => .set5A
  | .bitOp .set .o6 (.reg .b) => .set6B
  | .bitOp .set .o6 (.reg .c) => .set6C
  | .bitOp .set .o6 (.reg .d) => .set6D
  | .bitOp .set .o6 (.reg .e) => .set6E
  | .bitOp .set .o6 (.reg .h) => .set6H
  | .bitOp .set .o6 (.reg .l) => .set6L
  | .bitOp .set .o6 .memHl => .set6MemHl
  | .bitOp .set .o6 (.reg .a) => .set6A
  | .bitOp .set .o7 (.reg .b) => .set7B
  | .bitOp .set .o7 (.reg .c) => .set7C
  | .bitOp .set .o7 (.reg .d) => .set7D
  | .bitOp .set .o7 (.reg .e) => .set7E
  | .bitOp .set .o7 (.reg .h) => .set7H
  | .bitOp .set .o7 (.reg .l) => .set7L
  | .bitOp .set .o7 .memHl => .set7MemHl
  | .bitOp .set .o7 (.reg .a) => .set7A

end Sys2Proof
end

