-- ==== Sys2Proof/Machine/Cascade.lean ====
section
/-! DEFINITION. The dispatcher as 46_dispatch.md writes it: a cascade over the fields of the fetched byte (R241, R242, R243). The
meaning of PREFIX CB (R245) is its extended half. It takes the parameters of 00_scope.md R8 as an argument. The step of the machine
(Machine/Step.lean) goes through the opcode maps and `exec` instead, at `params`; that the two agree there is a statement. -/

namespace Sys2Proof.Machine

/-- `slot(z)` (30_encoding.md R84). -/
def slotOf (z : BitVec 3) : Slot :=
  if z = 0 then .reg .b
  else if z = 1 then .reg .c
  else if z = 2 then .reg .d
  else if z = 3 then .reg .e
  else if z = 4 then .reg .h
  else if z = 5 then .reg .l
  else if z = 6 then .memHl
  else .reg .a

/-- `reg(y)` for the `LD r,n` group (46_dispatch.md R242): the register of a slot, none where the slot is `(HL)`. -/
def regOf (y : BitVec 3) : Option GReg :=
  match slotOf y with
  | .reg r => some r
  | .memHl => none

/-- `fn(y)` (30_encoding.md R86), none for code 7. -/
def fnOf (y : BitVec 3) : Option AluFn :=
  if y = 0 then some .add
  else if y = 1 then some .adc
  else if y = 2 then some .sub
  else if y = 3 then some .sbc
  else if y = 4 then some .and
  else if y = 5 then some .xor
  else if y = 6 then some .or
  else none

/-- `pair(pp)` (30_encoding.md R85). -/
def pairOf (pp : BitVec 2) : Pair := if pp = 0 then .bc else if pp = 1 then .de else if pp = 2 then .hl else .af

/-- A 3-bit field as a bit number (44_bit_ops.md R203). -/
def octOf (y : BitVec 3) : Oct :=
  if y = 0 then .o0
  else if y = 1 then .o1
  else if y = 2 then .o2
  else if y = 3 then .o3
  else if y = 4 then .o4
  else if y = 5 then .o5
  else if y = 6 then .o6
  else .o7

/-- `8 * y` as an address (30_encoding.md R95). -/
def vectorOf (y : BitVec 3) : Word := 8 * y.zeroExtend 16

/-- The cascade of `ExtendedDispatch` over the fields of the selector (46_dispatch.md R243); `a1` is the selector's address. -/
def extendedAction (cfg : Params) (a1 : Word) (sel : Byte) (s : State) : State :=
  let x := sel.extractLsb' 6 2
  let b := sel.extractLsb' 3 3
  let o := slotOperand (slotOf (sel.extractLsb' 0 3))
  if x = 1 then testBit cfg o (octOf b) s
  else if x = 2 then resetBit o (octOf b) s
  else if x = 3 then setBit o (octOf b) s
  else if b = 6 then executeUnary cfg .swap o s
  else raiseFault .notImplemented sel a1 true s

/-- `ExtendedDispatch` after the selector is fetched (46_dispatch.md R243): a selector outside WIRED_SET has no action (R246). -/
def extendedSelect (cfg : Params) (a1 : Word) (sel : Byte) (s : State) : State :=
  if sel ∈ cfg.wiredExtended then extendedAction cfg a1 sel s else raiseFault .notImplemented sel a1 true s

/-- `ExtendedDispatch()` (46_dispatch.md R243). -/
def extendedDispatch (cfg : Params) (s : State) : State :=
  let a1 := s.pc
  let fetched := fetch8 s cfg
  extendedSelect cfg a1 fetched.1 fetched.2

/-- `x[reg(y)] <- Fetch8()` and its neighbours: an immediate is fetched where it is used (46_dispatch.md R242). -/
def withImmediate (cfg : Params) (action : Byte → State → State) (s : State) : State :=
  let fetched := fetch8 s cfg
  action fetched.1 fetched.2

/-- The cascade of `PrimaryDispatch` over the fields of the byte, after the invalid bytes (46_dispatch.md R242). -/
def primaryAction (cfg : Params) (op : Byte) (a0 : Word) (s : State) : State :=
  let x := op.extractLsb' 6 2
  let y := op.extractLsb' 3 3
  let z := op.extractLsb' 0 3
  let pp := op.extractLsb' 4 2
  if op = 0x00 then s
  else if op = Config.prefixByte then extendedDispatch cfg s
  else if x = 0 ∧ z = 6 ∧ y ≠ 6 then
    match regOf y with
    | some r => withImmediate cfg (loadImmediate r) s
    | none => raiseFault .notImplemented op a0 false s
  else if x = 0 ∧ z = 4 then executeUnary cfg .inc (slotOperand (slotOf y)) s
  else if x = 0 ∧ z = 5 then executeUnary cfg .dec (slotOperand (slotOf y)) s
  else if op = 0x0A ∨ op = 0x1A then move (.reg .a) (.mem (if pp = 0 then .bc else .de)) s
  else if op = 0x02 ∨ op = 0x12 then move (.mem (if pp = 0 then .bc else .de)) (.reg .a) s
  else if x = 1 ∧ op ≠ 0x76 then move (slotOperand (slotOf y)) (slotOperand (slotOf z)) s
  else if x = 2 ∧ y ≠ 7 then
    match fnOf y with
    | some fn => binaryOn cfg fn (slotOperand (slotOf z)) s
    | none => raiseFault .notImplemented op a0 false s
  else if x = 3 ∧ z = 6 ∧ y ≠ 7 then
    match fnOf y with
    | some fn => withImmediate cfg (executeBinary cfg fn) s
    | none => raiseFault .notImplemented op a0 false s
  else if x = 3 ∧ z = 7 then callFixedVector cfg (vectorOf y) s
  else if x = 3 ∧ z = 5 ∧ y.getLsbD 0 = false then push cfg (pairOf pp) s
  else if x = 3 ∧ z = 1 ∧ y.getLsbD 0 = false then pop cfg (pairOf pp) s
  else raiseFault .notImplemented op a0 false s

/-- `PrimaryDispatch(op, a0)` (46_dispatch.md R242): a byte of INVALID_SET is invalid (R247), and one outside WIRED_SET has no
action (R246). -/
def primaryDispatch (cfg : Params) (op : Byte) (a0 : Word) (s : State) : State :=
  if op ∈ cfg.invalidSet then raiseFault .invalidOpcode op a0 false s
  else if op ∈ cfg.wiredPrimary then primaryAction cfg op a0 s
  else raiseFault .notImplemented op a0 false s

/-- `Step()` (46_dispatch.md R241; 60_exceptions.md R266). -/
def stepCascade (cfg : Params) (s : State) : State :=
  match s.status with
  | .faulted _ => s
  | .running =>
    let a0 := s.pc
    let fetched := fetch8 s cfg
    primaryDispatch cfg fetched.1 a0 fetched.2

end Sys2Proof.Machine
end

