-- ==== Sys2Proof/Machine/System.lean ====
section
/-! DEFINITION. The dispatcher's own instructions (46_dispatch.md R244, R245) and the opcodes that fault (R246, R247). -/

namespace Sys2Proof.Machine

/-- `NOP` (R244). -/
def execNop (s : State) : Result := .next s

/-- 0x01: no action, faults (unimplemented: SM83 LD BC,nn; 46_dispatch.md R246). -/
def execUnimplLdBcNn (s : State) : Result := .next (unimplementedPrimary 0x01 s)

/-- 0x03: no action, faults (unimplemented: SM83 INC BC; 46_dispatch.md R246). -/
def execUnimplIncBc (s : State) : Result := .next (unimplementedPrimary 0x03 s)

/-- 0x07: no action, faults (unimplemented: SM83 RLCA; 46_dispatch.md R246). -/
def execUnimplRlca (s : State) : Result := .next (unimplementedPrimary 0x07 s)

/-- 0x08: no action, faults (unimplemented: SM83 LD (nn),SP; 46_dispatch.md R246). -/
def execUnimplLdMemNnSp (s : State) : Result := .next (unimplementedPrimary 0x08 s)

/-- 0x09: no action, faults (unimplemented: SM83 ADD HL,BC; 46_dispatch.md R246). -/
def execUnimplAddHlBc (s : State) : Result := .next (unimplementedPrimary 0x09 s)

/-- 0x0B: no action, faults (unimplemented: SM83 DEC BC; 46_dispatch.md R246). -/
def execUnimplDecBc (s : State) : Result := .next (unimplementedPrimary 0x0B s)

/-- 0x0F: no action, faults (unimplemented: SM83 RRCA; 46_dispatch.md R246). -/
def execUnimplRrca (s : State) : Result := .next (unimplementedPrimary 0x0F s)

/-- 0x10: no action, faults (unimplemented: SM83 STOP; 46_dispatch.md R246). -/
def execUnimplStop (s : State) : Result := .next (unimplementedPrimary 0x10 s)

/-- 0x11: no action, faults (unimplemented: SM83 LD DE,nn; 46_dispatch.md R246). -/
def execUnimplLdDeNn (s : State) : Result := .next (unimplementedPrimary 0x11 s)

/-- 0x13: no action, faults (unimplemented: SM83 INC DE; 46_dispatch.md R246). -/
def execUnimplIncDe (s : State) : Result := .next (unimplementedPrimary 0x13 s)

/-- 0x17: no action, faults (unimplemented: SM83 RLA; 46_dispatch.md R246). -/
def execUnimplRla (s : State) : Result := .next (unimplementedPrimary 0x17 s)

/-- 0x18: no action, faults (unimplemented: SM83 JR e; 46_dispatch.md R246). -/
def execUnimplJrE (s : State) : Result := .next (unimplementedPrimary 0x18 s)

/-- 0x19: no action, faults (unimplemented: SM83 ADD HL,DE; 46_dispatch.md R246). -/
def execUnimplAddHlDe (s : State) : Result := .next (unimplementedPrimary 0x19 s)

/-- 0x1B: no action, faults (unimplemented: SM83 DEC DE; 46_dispatch.md R246). -/
def execUnimplDecDe (s : State) : Result := .next (unimplementedPrimary 0x1B s)

/-- 0x1F: no action, faults (unimplemented: SM83 RRA; 46_dispatch.md R246). -/
def execUnimplRra (s : State) : Result := .next (unimplementedPrimary 0x1F s)

/-- 0x20: no action, faults (unimplemented: SM83 JR NZ,e; 46_dispatch.md R246). -/
def execUnimplJrNzE (s : State) : Result := .next (unimplementedPrimary 0x20 s)

/-- 0x21: no action, faults (unimplemented: SM83 LD HL,nn; 46_dispatch.md R246). -/
def execUnimplLdHlNn (s : State) : Result := .next (unimplementedPrimary 0x21 s)

/-- 0x22: no action, faults (unimplemented: SM83 LD (HL+),A; 46_dispatch.md R246). -/
def execUnimplLdMemHlIncA (s : State) : Result := .next (unimplementedPrimary 0x22 s)

/-- 0x23: no action, faults (unimplemented: SM83 INC HL; 46_dispatch.md R246). -/
def execUnimplIncHl (s : State) : Result := .next (unimplementedPrimary 0x23 s)

/-- 0x27: no action, faults (unimplemented: SM83 DAA; 46_dispatch.md R246). -/
def execUnimplDaa (s : State) : Result := .next (unimplementedPrimary 0x27 s)

/-- 0x28: no action, faults (unimplemented: SM83 JR Z,e; 46_dispatch.md R246). -/
def execUnimplJrZE (s : State) : Result := .next (unimplementedPrimary 0x28 s)

/-- 0x29: no action, faults (unimplemented: SM83 ADD HL,HL; 46_dispatch.md R246). -/
def execUnimplAddHlHl (s : State) : Result := .next (unimplementedPrimary 0x29 s)

/-- 0x2A: no action, faults (unimplemented: SM83 LD A,(HL+); 46_dispatch.md R246). -/
def execUnimplLdAMemHlInc (s : State) : Result := .next (unimplementedPrimary 0x2A s)

/-- 0x2B: no action, faults (unimplemented: SM83 DEC HL; 46_dispatch.md R246). -/
def execUnimplDecHl (s : State) : Result := .next (unimplementedPrimary 0x2B s)

/-- 0x2F: no action, faults (unimplemented: SM83 CPL; 46_dispatch.md R246). -/
def execUnimplCpl (s : State) : Result := .next (unimplementedPrimary 0x2F s)

/-- 0x30: no action, faults (unimplemented: SM83 JR NC,e; 46_dispatch.md R246). -/
def execUnimplJrNcE (s : State) : Result := .next (unimplementedPrimary 0x30 s)

/-- 0x31: no action, faults (unimplemented: SM83 LD SP,nn; 46_dispatch.md R246). -/
def execUnimplLdSpNn (s : State) : Result := .next (unimplementedPrimary 0x31 s)

/-- 0x32: no action, faults (unimplemented: SM83 LD (HL-),A; 46_dispatch.md R246). -/
def execUnimplLdMemHlDecA (s : State) : Result := .next (unimplementedPrimary 0x32 s)

/-- 0x33: no action, faults (unimplemented: SM83 INC SP; 46_dispatch.md R246). -/
def execUnimplIncSp (s : State) : Result := .next (unimplementedPrimary 0x33 s)

/-- 0x36: no action, faults (unimplemented: SM83 LD (HL),n; 46_dispatch.md R246). -/
def execUnimplLdMemHlN (s : State) : Result := .next (unimplementedPrimary 0x36 s)

/-- 0x37: no action, faults (unimplemented: SM83 SCF; 46_dispatch.md R246). -/
def execUnimplScf (s : State) : Result := .next (unimplementedPrimary 0x37 s)

/-- 0x38: no action, faults (unimplemented: SM83 JR C,e; 46_dispatch.md R246). -/
def execUnimplJrCE (s : State) : Result := .next (unimplementedPrimary 0x38 s)

/-- 0x39: no action, faults (unimplemented: SM83 ADD HL,SP; 46_dispatch.md R246). -/
def execUnimplAddHlSp (s : State) : Result := .next (unimplementedPrimary 0x39 s)

/-- 0x3A: no action, faults (unimplemented: SM83 LD A,(HL-); 46_dispatch.md R246). -/
def execUnimplLdAMemHlDec (s : State) : Result := .next (unimplementedPrimary 0x3A s)

/-- 0x3B: no action, faults (unimplemented: SM83 DEC SP; 46_dispatch.md R246). -/
def execUnimplDecSp (s : State) : Result := .next (unimplementedPrimary 0x3B s)

/-- 0x3F: no action, faults (unimplemented: SM83 CCF; 46_dispatch.md R246). -/
def execUnimplCcf (s : State) : Result := .next (unimplementedPrimary 0x3F s)

/-- 0x76: no action, faults (unimplemented: SM83 HALT; 46_dispatch.md R246). -/
def execUnimplHalt (s : State) : Result := .next (unimplementedPrimary 0x76 s)

/-- 0xB8: no action, faults (unimplemented: SM83 CP B; 46_dispatch.md R246). -/
def execUnimplCpB (s : State) : Result := .next (unimplementedPrimary 0xB8 s)

/-- 0xB9: no action, faults (unimplemented: SM83 CP C; 46_dispatch.md R246). -/
def execUnimplCpC (s : State) : Result := .next (unimplementedPrimary 0xB9 s)

/-- 0xBA: no action, faults (unimplemented: SM83 CP D; 46_dispatch.md R246). -/
def execUnimplCpD (s : State) : Result := .next (unimplementedPrimary 0xBA s)

/-- 0xBB: no action, faults (unimplemented: SM83 CP E; 46_dispatch.md R246). -/
def execUnimplCpE (s : State) : Result := .next (unimplementedPrimary 0xBB s)

/-- 0xBC: no action, faults (unimplemented: SM83 CP H; 46_dispatch.md R246). -/
def execUnimplCpH (s : State) : Result := .next (unimplementedPrimary 0xBC s)

/-- 0xBD: no action, faults (unimplemented: SM83 CP L; 46_dispatch.md R246). -/
def execUnimplCpL (s : State) : Result := .next (unimplementedPrimary 0xBD s)

/-- 0xBE: no action, faults (unimplemented: SM83 CP (HL); 46_dispatch.md R246). -/
def execUnimplCpMemHl (s : State) : Result := .next (unimplementedPrimary 0xBE s)

/-- 0xBF: no action, faults (unimplemented: SM83 CP A; 46_dispatch.md R246). -/
def execUnimplCpA (s : State) : Result := .next (unimplementedPrimary 0xBF s)

/-- 0xC0: no action, faults (unimplemented: SM83 RET NZ; 46_dispatch.md R246). -/
def execUnimplRetNz (s : State) : Result := .next (unimplementedPrimary 0xC0 s)

/-- 0xC2: no action, faults (unimplemented: SM83 JP NZ,nn; 46_dispatch.md R246). -/
def execUnimplJpNzNn (s : State) : Result := .next (unimplementedPrimary 0xC2 s)

/-- 0xC3: no action, faults (unimplemented: SM83 JP nn; 46_dispatch.md R246). -/
def execUnimplJpNn (s : State) : Result := .next (unimplementedPrimary 0xC3 s)

/-- 0xC4: no action, faults (unimplemented: SM83 CALL NZ,nn; 46_dispatch.md R246). -/
def execUnimplCallNzNn (s : State) : Result := .next (unimplementedPrimary 0xC4 s)

/-- 0xC8: no action, faults (unimplemented: SM83 RET Z; 46_dispatch.md R246). -/
def execUnimplRetZ (s : State) : Result := .next (unimplementedPrimary 0xC8 s)

/-- 0xC9: no action, faults (unimplemented: SM83 RET; 46_dispatch.md R246). -/
def execUnimplRet (s : State) : Result := .next (unimplementedPrimary 0xC9 s)

/-- 0xCA: no action, faults (unimplemented: SM83 JP Z,nn; 46_dispatch.md R246). -/
def execUnimplJpZNn (s : State) : Result := .next (unimplementedPrimary 0xCA s)

/-- `PREFIX CB` (R245). -/
def execPrefixCb (sel : Byte) (s : State) : Result := .next (extendedSelect params (s.pc - 1) sel s)

/-- 0xCC: no action, faults (unimplemented: SM83 CALL Z,nn; 46_dispatch.md R246). -/
def execUnimplCallZNn (s : State) : Result := .next (unimplementedPrimary 0xCC s)

/-- 0xCD: no action, faults (unimplemented: SM83 CALL nn; 46_dispatch.md R246). -/
def execUnimplCallNn (s : State) : Result := .next (unimplementedPrimary 0xCD s)

/-- 0xD0: no action, faults (unimplemented: SM83 RET NC; 46_dispatch.md R246). -/
def execUnimplRetNc (s : State) : Result := .next (unimplementedPrimary 0xD0 s)

/-- 0xD2: no action, faults (unimplemented: SM83 JP NC,nn; 46_dispatch.md R246). -/
def execUnimplJpNcNn (s : State) : Result := .next (unimplementedPrimary 0xD2 s)

/-- 0xD3: faults (invalid 0xD3; 46_dispatch.md R247). -/
def execInvalidD3 (s : State) : Result := .next (invalidPrimary 0xD3 s)

/-- 0xD4: no action, faults (unimplemented: SM83 CALL NC,nn; 46_dispatch.md R246). -/
def execUnimplCallNcNn (s : State) : Result := .next (unimplementedPrimary 0xD4 s)

/-- 0xD8: no action, faults (unimplemented: SM83 RET C; 46_dispatch.md R246). -/
def execUnimplRetC (s : State) : Result := .next (unimplementedPrimary 0xD8 s)

/-- 0xD9: no action, faults (unimplemented: SM83 RETI; 46_dispatch.md R246). -/
def execUnimplReti (s : State) : Result := .next (unimplementedPrimary 0xD9 s)

/-- 0xDA: no action, faults (unimplemented: SM83 JP C,nn; 46_dispatch.md R246). -/
def execUnimplJpCNn (s : State) : Result := .next (unimplementedPrimary 0xDA s)

/-- 0xDB: faults (invalid 0xDB; 46_dispatch.md R247). -/
def execInvalidDB (s : State) : Result := .next (invalidPrimary 0xDB s)

/-- 0xDC: no action, faults (unimplemented: SM83 CALL C,nn; 46_dispatch.md R246). -/
def execUnimplCallCNn (s : State) : Result := .next (unimplementedPrimary 0xDC s)

/-- 0xDD: faults (invalid 0xDD; 46_dispatch.md R247). -/
def execInvalidDD (s : State) : Result := .next (invalidPrimary 0xDD s)

/-- 0xE0: no action, faults (unimplemented: SM83 LDH (n),A; 46_dispatch.md R246). -/
def execUnimplLdhMemNA (s : State) : Result := .next (unimplementedPrimary 0xE0 s)

/-- 0xE2: no action, faults (unimplemented: SM83 LD (C),A; 46_dispatch.md R246). -/
def execUnimplLdMemCA (s : State) : Result := .next (unimplementedPrimary 0xE2 s)

/-- 0xE3: faults (invalid 0xE3; 46_dispatch.md R247). -/
def execInvalidE3 (s : State) : Result := .next (invalidPrimary 0xE3 s)

/-- 0xE4: faults (invalid 0xE4; 46_dispatch.md R247). -/
def execInvalidE4 (s : State) : Result := .next (invalidPrimary 0xE4 s)

/-- 0xE8: no action, faults (unimplemented: SM83 ADD SP,e; 46_dispatch.md R246). -/
def execUnimplAddSpE (s : State) : Result := .next (unimplementedPrimary 0xE8 s)

/-- 0xE9: no action, faults (unimplemented: SM83 JP HL; 46_dispatch.md R246). -/
def execUnimplJpHl (s : State) : Result := .next (unimplementedPrimary 0xE9 s)

/-- 0xEA: no action, faults (unimplemented: SM83 LD (nn),A; 46_dispatch.md R246). -/
def execUnimplLdMemNnA (s : State) : Result := .next (unimplementedPrimary 0xEA s)

/-- 0xEB: faults (invalid 0xEB; 46_dispatch.md R247). -/
def execInvalidEB (s : State) : Result := .next (invalidPrimary 0xEB s)

/-- 0xEC: faults (invalid 0xEC; 46_dispatch.md R247). -/
def execInvalidEC (s : State) : Result := .next (invalidPrimary 0xEC s)

/-- 0xED: faults (invalid 0xED; 46_dispatch.md R247). -/
def execInvalidED (s : State) : Result := .next (invalidPrimary 0xED s)

/-- 0xF0: no action, faults (unimplemented: SM83 LDH A,(n); 46_dispatch.md R246). -/
def execUnimplLdhAMemN (s : State) : Result := .next (unimplementedPrimary 0xF0 s)

/-- 0xF2: no action, faults (unimplemented: SM83 LD A,(C); 46_dispatch.md R246). -/
def execUnimplLdAMemC (s : State) : Result := .next (unimplementedPrimary 0xF2 s)

/-- 0xF3: no action, faults (unimplemented: SM83 DI; 46_dispatch.md R246). -/
def execUnimplDi (s : State) : Result := .next (unimplementedPrimary 0xF3 s)

/-- 0xF4: faults (invalid 0xF4; 46_dispatch.md R247). -/
def execInvalidF4 (s : State) : Result := .next (invalidPrimary 0xF4 s)

/-- 0xF8: no action, faults (unimplemented: SM83 LD HL,SP+e; 46_dispatch.md R246). -/
def execUnimplLdHlSpPlusE (s : State) : Result := .next (unimplementedPrimary 0xF8 s)

/-- 0xF9: no action, faults (unimplemented: SM83 LD SP,HL; 46_dispatch.md R246). -/
def execUnimplLdSpHl (s : State) : Result := .next (unimplementedPrimary 0xF9 s)

/-- 0xFA: no action, faults (unimplemented: SM83 LD A,(nn); 46_dispatch.md R246). -/
def execUnimplLdAMemNn (s : State) : Result := .next (unimplementedPrimary 0xFA s)

/-- 0xFB: no action, faults (unimplemented: SM83 EI; 46_dispatch.md R246). -/
def execUnimplEi (s : State) : Result := .next (unimplementedPrimary 0xFB s)

/-- 0xFC: faults (invalid 0xFC; 46_dispatch.md R247). -/
def execInvalidFC (s : State) : Result := .next (invalidPrimary 0xFC s)

/-- 0xFD: faults (invalid 0xFD; 46_dispatch.md R247). -/
def execInvalidFD (s : State) : Result := .next (invalidPrimary 0xFD s)

/-- 0xFE: no action, faults (unimplemented: SM83 CP n; 46_dispatch.md R246). -/
def execUnimplCpN (s : State) : Result := .next (unimplementedPrimary 0xFE s)

/-- 0xCB00: no action, faults (unimplemented: SM83 RLC B; 46_dispatch.md R246). -/
def execUnimplRlcB (s : State) : Result := .next (unimplementedExtended 0x00 s)

/-- 0xCB01: no action, faults (unimplemented: SM83 RLC C; 46_dispatch.md R246). -/
def execUnimplRlcC (s : State) : Result := .next (unimplementedExtended 0x01 s)

/-- 0xCB02: no action, faults (unimplemented: SM83 RLC D; 46_dispatch.md R246). -/
def execUnimplRlcD (s : State) : Result := .next (unimplementedExtended 0x02 s)

/-- 0xCB03: no action, faults (unimplemented: SM83 RLC E; 46_dispatch.md R246). -/
def execUnimplRlcE (s : State) : Result := .next (unimplementedExtended 0x03 s)

/-- 0xCB04: no action, faults (unimplemented: SM83 RLC H; 46_dispatch.md R246). -/
def execUnimplRlcH (s : State) : Result := .next (unimplementedExtended 0x04 s)

/-- 0xCB05: no action, faults (unimplemented: SM83 RLC L; 46_dispatch.md R246). -/
def execUnimplRlcL (s : State) : Result := .next (unimplementedExtended 0x05 s)

/-- 0xCB06: no action, faults (unimplemented: SM83 RLC (HL); 46_dispatch.md R246). -/
def execUnimplRlcMemHl (s : State) : Result := .next (unimplementedExtended 0x06 s)

/-- 0xCB07: no action, faults (unimplemented: SM83 RLC A; 46_dispatch.md R246). -/
def execUnimplRlcA (s : State) : Result := .next (unimplementedExtended 0x07 s)

/-- 0xCB08: no action, faults (unimplemented: SM83 RRC B; 46_dispatch.md R246). -/
def execUnimplRrcB (s : State) : Result := .next (unimplementedExtended 0x08 s)

/-- 0xCB09: no action, faults (unimplemented: SM83 RRC C; 46_dispatch.md R246). -/
def execUnimplRrcC (s : State) : Result := .next (unimplementedExtended 0x09 s)

/-- 0xCB0A: no action, faults (unimplemented: SM83 RRC D; 46_dispatch.md R246). -/
def execUnimplRrcD (s : State) : Result := .next (unimplementedExtended 0x0A s)

/-- 0xCB0B: no action, faults (unimplemented: SM83 RRC E; 46_dispatch.md R246). -/
def execUnimplRrcE (s : State) : Result := .next (unimplementedExtended 0x0B s)

/-- 0xCB0C: no action, faults (unimplemented: SM83 RRC H; 46_dispatch.md R246). -/
def execUnimplRrcH (s : State) : Result := .next (unimplementedExtended 0x0C s)

/-- 0xCB0D: no action, faults (unimplemented: SM83 RRC L; 46_dispatch.md R246). -/
def execUnimplRrcL (s : State) : Result := .next (unimplementedExtended 0x0D s)

/-- 0xCB0E: no action, faults (unimplemented: SM83 RRC (HL); 46_dispatch.md R246). -/
def execUnimplRrcMemHl (s : State) : Result := .next (unimplementedExtended 0x0E s)

/-- 0xCB0F: no action, faults (unimplemented: SM83 RRC A; 46_dispatch.md R246). -/
def execUnimplRrcA (s : State) : Result := .next (unimplementedExtended 0x0F s)

/-- 0xCB10: no action, faults (unimplemented: SM83 RL B; 46_dispatch.md R246). -/
def execUnimplRlB (s : State) : Result := .next (unimplementedExtended 0x10 s)

/-- 0xCB11: no action, faults (unimplemented: SM83 RL C; 46_dispatch.md R246). -/
def execUnimplRlC (s : State) : Result := .next (unimplementedExtended 0x11 s)

/-- 0xCB12: no action, faults (unimplemented: SM83 RL D; 46_dispatch.md R246). -/
def execUnimplRlD (s : State) : Result := .next (unimplementedExtended 0x12 s)

/-- 0xCB13: no action, faults (unimplemented: SM83 RL E; 46_dispatch.md R246). -/
def execUnimplRlE (s : State) : Result := .next (unimplementedExtended 0x13 s)

/-- 0xCB14: no action, faults (unimplemented: SM83 RL H; 46_dispatch.md R246). -/
def execUnimplRlH (s : State) : Result := .next (unimplementedExtended 0x14 s)

/-- 0xCB15: no action, faults (unimplemented: SM83 RL L; 46_dispatch.md R246). -/
def execUnimplRlL (s : State) : Result := .next (unimplementedExtended 0x15 s)

/-- 0xCB16: no action, faults (unimplemented: SM83 RL (HL); 46_dispatch.md R246). -/
def execUnimplRlMemHl (s : State) : Result := .next (unimplementedExtended 0x16 s)

/-- 0xCB17: no action, faults (unimplemented: SM83 RL A; 46_dispatch.md R246). -/
def execUnimplRlA (s : State) : Result := .next (unimplementedExtended 0x17 s)

/-- 0xCB18: no action, faults (unimplemented: SM83 RR B; 46_dispatch.md R246). -/
def execUnimplRrB (s : State) : Result := .next (unimplementedExtended 0x18 s)

/-- 0xCB19: no action, faults (unimplemented: SM83 RR C; 46_dispatch.md R246). -/
def execUnimplRrC (s : State) : Result := .next (unimplementedExtended 0x19 s)

/-- 0xCB1A: no action, faults (unimplemented: SM83 RR D; 46_dispatch.md R246). -/
def execUnimplRrD (s : State) : Result := .next (unimplementedExtended 0x1A s)

/-- 0xCB1B: no action, faults (unimplemented: SM83 RR E; 46_dispatch.md R246). -/
def execUnimplRrE (s : State) : Result := .next (unimplementedExtended 0x1B s)

/-- 0xCB1C: no action, faults (unimplemented: SM83 RR H; 46_dispatch.md R246). -/
def execUnimplRrH (s : State) : Result := .next (unimplementedExtended 0x1C s)

/-- 0xCB1D: no action, faults (unimplemented: SM83 RR L; 46_dispatch.md R246). -/
def execUnimplRrL (s : State) : Result := .next (unimplementedExtended 0x1D s)

/-- 0xCB1E: no action, faults (unimplemented: SM83 RR (HL); 46_dispatch.md R246). -/
def execUnimplRrMemHl (s : State) : Result := .next (unimplementedExtended 0x1E s)

/-- 0xCB1F: no action, faults (unimplemented: SM83 RR A; 46_dispatch.md R246). -/
def execUnimplRrA (s : State) : Result := .next (unimplementedExtended 0x1F s)

/-- 0xCB20: no action, faults (unimplemented: SM83 SLA B; 46_dispatch.md R246). -/
def execUnimplSlaB (s : State) : Result := .next (unimplementedExtended 0x20 s)

/-- 0xCB21: no action, faults (unimplemented: SM83 SLA C; 46_dispatch.md R246). -/
def execUnimplSlaC (s : State) : Result := .next (unimplementedExtended 0x21 s)

/-- 0xCB22: no action, faults (unimplemented: SM83 SLA D; 46_dispatch.md R246). -/
def execUnimplSlaD (s : State) : Result := .next (unimplementedExtended 0x22 s)

/-- 0xCB23: no action, faults (unimplemented: SM83 SLA E; 46_dispatch.md R246). -/
def execUnimplSlaE (s : State) : Result := .next (unimplementedExtended 0x23 s)

/-- 0xCB24: no action, faults (unimplemented: SM83 SLA H; 46_dispatch.md R246). -/
def execUnimplSlaH (s : State) : Result := .next (unimplementedExtended 0x24 s)

/-- 0xCB25: no action, faults (unimplemented: SM83 SLA L; 46_dispatch.md R246). -/
def execUnimplSlaL (s : State) : Result := .next (unimplementedExtended 0x25 s)

/-- 0xCB26: no action, faults (unimplemented: SM83 SLA (HL); 46_dispatch.md R246). -/
def execUnimplSlaMemHl (s : State) : Result := .next (unimplementedExtended 0x26 s)

/-- 0xCB27: no action, faults (unimplemented: SM83 SLA A; 46_dispatch.md R246). -/
def execUnimplSlaA (s : State) : Result := .next (unimplementedExtended 0x27 s)

/-- 0xCB28: no action, faults (unimplemented: SM83 SRA B; 46_dispatch.md R246). -/
def execUnimplSraB (s : State) : Result := .next (unimplementedExtended 0x28 s)

/-- 0xCB29: no action, faults (unimplemented: SM83 SRA C; 46_dispatch.md R246). -/
def execUnimplSraC (s : State) : Result := .next (unimplementedExtended 0x29 s)

/-- 0xCB2A: no action, faults (unimplemented: SM83 SRA D; 46_dispatch.md R246). -/
def execUnimplSraD (s : State) : Result := .next (unimplementedExtended 0x2A s)

/-- 0xCB2B: no action, faults (unimplemented: SM83 SRA E; 46_dispatch.md R246). -/
def execUnimplSraE (s : State) : Result := .next (unimplementedExtended 0x2B s)

/-- 0xCB2C: no action, faults (unimplemented: SM83 SRA H; 46_dispatch.md R246). -/
def execUnimplSraH (s : State) : Result := .next (unimplementedExtended 0x2C s)

/-- 0xCB2D: no action, faults (unimplemented: SM83 SRA L; 46_dispatch.md R246). -/
def execUnimplSraL (s : State) : Result := .next (unimplementedExtended 0x2D s)

/-- 0xCB2E: no action, faults (unimplemented: SM83 SRA (HL); 46_dispatch.md R246). -/
def execUnimplSraMemHl (s : State) : Result := .next (unimplementedExtended 0x2E s)

/-- 0xCB2F: no action, faults (unimplemented: SM83 SRA A; 46_dispatch.md R246). -/
def execUnimplSraA (s : State) : Result := .next (unimplementedExtended 0x2F s)

/-- 0xCB38: no action, faults (unimplemented: SM83 SRL B; 46_dispatch.md R246). -/
def execUnimplSrlB (s : State) : Result := .next (unimplementedExtended 0x38 s)

/-- 0xCB39: no action, faults (unimplemented: SM83 SRL C; 46_dispatch.md R246). -/
def execUnimplSrlC (s : State) : Result := .next (unimplementedExtended 0x39 s)

/-- 0xCB3A: no action, faults (unimplemented: SM83 SRL D; 46_dispatch.md R246). -/
def execUnimplSrlD (s : State) : Result := .next (unimplementedExtended 0x3A s)

/-- 0xCB3B: no action, faults (unimplemented: SM83 SRL E; 46_dispatch.md R246). -/
def execUnimplSrlE (s : State) : Result := .next (unimplementedExtended 0x3B s)

/-- 0xCB3C: no action, faults (unimplemented: SM83 SRL H; 46_dispatch.md R246). -/
def execUnimplSrlH (s : State) : Result := .next (unimplementedExtended 0x3C s)

/-- 0xCB3D: no action, faults (unimplemented: SM83 SRL L; 46_dispatch.md R246). -/
def execUnimplSrlL (s : State) : Result := .next (unimplementedExtended 0x3D s)

/-- 0xCB3E: no action, faults (unimplemented: SM83 SRL (HL); 46_dispatch.md R246). -/
def execUnimplSrlMemHl (s : State) : Result := .next (unimplementedExtended 0x3E s)

/-- 0xCB3F: no action, faults (unimplemented: SM83 SRL A; 46_dispatch.md R246). -/
def execUnimplSrlA (s : State) : Result := .next (unimplementedExtended 0x3F s)

end Sys2Proof.Machine
end

