-- ==== Sys2Proof/Machine/Dispatch.lean ====
section
/-! DEFINITION. `exec`: one arm for each constructor, one direct call of its meaning. The state an arm is given has `pc` past
the instruction's last byte (46_dispatch.md R240, R242; log entry 6). -/

namespace Sys2Proof.Machine

def exec (i : Instr) (s : State) : Host.Outcome State Fault Refusal :=
  match i with
  | .nop => Sys2Proof.Machine.execNop s
  | .unimplLdBcNn => Sys2Proof.Machine.execUnimplLdBcNn s
  | .ldMemBcA => Sys2Proof.Machine.execLdMemBcA s
  | .unimplIncBc => Sys2Proof.Machine.execUnimplIncBc s
  | .incB => Sys2Proof.Machine.execIncB s
  | .decB => Sys2Proof.Machine.execDecB s
  | .ldBN n => Sys2Proof.Machine.execLdBN n s
  | .unimplRlca => Sys2Proof.Machine.execUnimplRlca s
  | .unimplLdMemNnSp => Sys2Proof.Machine.execUnimplLdMemNnSp s
  | .unimplAddHlBc => Sys2Proof.Machine.execUnimplAddHlBc s
  | .ldAMemBc => Sys2Proof.Machine.execLdAMemBc s
  | .unimplDecBc => Sys2Proof.Machine.execUnimplDecBc s
  | .incC => Sys2Proof.Machine.execIncC s
  | .decC => Sys2Proof.Machine.execDecC s
  | .ldCN n => Sys2Proof.Machine.execLdCN n s
  | .unimplRrca => Sys2Proof.Machine.execUnimplRrca s
  | .unimplStop => Sys2Proof.Machine.execUnimplStop s
  | .unimplLdDeNn => Sys2Proof.Machine.execUnimplLdDeNn s
  | .ldMemDeA => Sys2Proof.Machine.execLdMemDeA s
  | .unimplIncDe => Sys2Proof.Machine.execUnimplIncDe s
  | .incD => Sys2Proof.Machine.execIncD s
  | .decD => Sys2Proof.Machine.execDecD s
  | .ldDN n => Sys2Proof.Machine.execLdDN n s
  | .unimplRla => Sys2Proof.Machine.execUnimplRla s
  | .unimplJrE => Sys2Proof.Machine.execUnimplJrE s
  | .unimplAddHlDe => Sys2Proof.Machine.execUnimplAddHlDe s
  | .ldAMemDe => Sys2Proof.Machine.execLdAMemDe s
  | .unimplDecDe => Sys2Proof.Machine.execUnimplDecDe s
  | .incE => Sys2Proof.Machine.execIncE s
  | .decE => Sys2Proof.Machine.execDecE s
  | .ldEN n => Sys2Proof.Machine.execLdEN n s
  | .unimplRra => Sys2Proof.Machine.execUnimplRra s
  | .unimplJrNzE => Sys2Proof.Machine.execUnimplJrNzE s
  | .unimplLdHlNn => Sys2Proof.Machine.execUnimplLdHlNn s
  | .unimplLdMemHlIncA => Sys2Proof.Machine.execUnimplLdMemHlIncA s
  | .unimplIncHl => Sys2Proof.Machine.execUnimplIncHl s
  | .incH => Sys2Proof.Machine.execIncH s
  | .decH => Sys2Proof.Machine.execDecH s
  | .ldHN n => Sys2Proof.Machine.execLdHN n s
  | .unimplDaa => Sys2Proof.Machine.execUnimplDaa s
  | .unimplJrZE => Sys2Proof.Machine.execUnimplJrZE s
  | .unimplAddHlHl => Sys2Proof.Machine.execUnimplAddHlHl s
  | .unimplLdAMemHlInc => Sys2Proof.Machine.execUnimplLdAMemHlInc s
  | .unimplDecHl => Sys2Proof.Machine.execUnimplDecHl s
  | .incL => Sys2Proof.Machine.execIncL s
  | .decL => Sys2Proof.Machine.execDecL s
  | .ldLN n => Sys2Proof.Machine.execLdLN n s
  | .unimplCpl => Sys2Proof.Machine.execUnimplCpl s
  | .unimplJrNcE => Sys2Proof.Machine.execUnimplJrNcE s
  | .unimplLdSpNn => Sys2Proof.Machine.execUnimplLdSpNn s
  | .unimplLdMemHlDecA => Sys2Proof.Machine.execUnimplLdMemHlDecA s
  | .unimplIncSp => Sys2Proof.Machine.execUnimplIncSp s
  | .incMemHl => Sys2Proof.Machine.execIncMemHl s
  | .decMemHl => Sys2Proof.Machine.execDecMemHl s
  | .unimplLdMemHlN => Sys2Proof.Machine.execUnimplLdMemHlN s
  | .unimplScf => Sys2Proof.Machine.execUnimplScf s
  | .unimplJrCE => Sys2Proof.Machine.execUnimplJrCE s
  | .unimplAddHlSp => Sys2Proof.Machine.execUnimplAddHlSp s
  | .unimplLdAMemHlDec => Sys2Proof.Machine.execUnimplLdAMemHlDec s
  | .unimplDecSp => Sys2Proof.Machine.execUnimplDecSp s
  | .incA => Sys2Proof.Machine.execIncA s
  | .decA => Sys2Proof.Machine.execDecA s
  | .ldAN n => Sys2Proof.Machine.execLdAN n s
  | .unimplCcf => Sys2Proof.Machine.execUnimplCcf s
  | .ldBB => Sys2Proof.Machine.execLdBB s
  | .ldBC => Sys2Proof.Machine.execLdBC s
  | .ldBD => Sys2Proof.Machine.execLdBD s
  | .ldBE => Sys2Proof.Machine.execLdBE s
  | .ldBH => Sys2Proof.Machine.execLdBH s
  | .ldBL => Sys2Proof.Machine.execLdBL s
  | .ldBMemHl => Sys2Proof.Machine.execLdBMemHl s
  | .ldBA => Sys2Proof.Machine.execLdBA s
  | .ldCB => Sys2Proof.Machine.execLdCB s
  | .ldCC => Sys2Proof.Machine.execLdCC s
  | .ldCD => Sys2Proof.Machine.execLdCD s
  | .ldCE => Sys2Proof.Machine.execLdCE s
  | .ldCH => Sys2Proof.Machine.execLdCH s
  | .ldCL => Sys2Proof.Machine.execLdCL s
  | .ldCMemHl => Sys2Proof.Machine.execLdCMemHl s
  | .ldCA => Sys2Proof.Machine.execLdCA s
  | .ldDB => Sys2Proof.Machine.execLdDB s
  | .ldDC => Sys2Proof.Machine.execLdDC s
  | .ldDD => Sys2Proof.Machine.execLdDD s
  | .ldDE => Sys2Proof.Machine.execLdDE s
  | .ldDH => Sys2Proof.Machine.execLdDH s
  | .ldDL => Sys2Proof.Machine.execLdDL s
  | .ldDMemHl => Sys2Proof.Machine.execLdDMemHl s
  | .ldDA => Sys2Proof.Machine.execLdDA s
  | .ldEB => Sys2Proof.Machine.execLdEB s
  | .ldEC => Sys2Proof.Machine.execLdEC s
  | .ldED => Sys2Proof.Machine.execLdED s
  | .ldEE => Sys2Proof.Machine.execLdEE s
  | .ldEH => Sys2Proof.Machine.execLdEH s
  | .ldEL => Sys2Proof.Machine.execLdEL s
  | .ldEMemHl => Sys2Proof.Machine.execLdEMemHl s
  | .ldEA => Sys2Proof.Machine.execLdEA s
  | .ldHB => Sys2Proof.Machine.execLdHB s
  | .ldHC => Sys2Proof.Machine.execLdHC s
  | .ldHD => Sys2Proof.Machine.execLdHD s
  | .ldHE => Sys2Proof.Machine.execLdHE s
  | .ldHH => Sys2Proof.Machine.execLdHH s
  | .ldHL => Sys2Proof.Machine.execLdHL s
  | .ldHMemHl => Sys2Proof.Machine.execLdHMemHl s
  | .ldHA => Sys2Proof.Machine.execLdHA s
  | .ldLB => Sys2Proof.Machine.execLdLB s
  | .ldLC => Sys2Proof.Machine.execLdLC s
  | .ldLD => Sys2Proof.Machine.execLdLD s
  | .ldLE => Sys2Proof.Machine.execLdLE s
  | .ldLH => Sys2Proof.Machine.execLdLH s
  | .ldLL => Sys2Proof.Machine.execLdLL s
  | .ldLMemHl => Sys2Proof.Machine.execLdLMemHl s
  | .ldLA => Sys2Proof.Machine.execLdLA s
  | .ldMemHlB => Sys2Proof.Machine.execLdMemHlB s
  | .ldMemHlC => Sys2Proof.Machine.execLdMemHlC s
  | .ldMemHlD => Sys2Proof.Machine.execLdMemHlD s
  | .ldMemHlE => Sys2Proof.Machine.execLdMemHlE s
  | .ldMemHlH => Sys2Proof.Machine.execLdMemHlH s
  | .ldMemHlL => Sys2Proof.Machine.execLdMemHlL s
  | .unimplHalt => Sys2Proof.Machine.execUnimplHalt s
  | .ldMemHlA => Sys2Proof.Machine.execLdMemHlA s
  | .ldAB => Sys2Proof.Machine.execLdAB s
  | .ldAC => Sys2Proof.Machine.execLdAC s
  | .ldAD => Sys2Proof.Machine.execLdAD s
  | .ldAE => Sys2Proof.Machine.execLdAE s
  | .ldAH => Sys2Proof.Machine.execLdAH s
  | .ldAL => Sys2Proof.Machine.execLdAL s
  | .ldAMemHl => Sys2Proof.Machine.execLdAMemHl s
  | .ldAA => Sys2Proof.Machine.execLdAA s
  | .addAB => Sys2Proof.Machine.execAddAB s
  | .addAC => Sys2Proof.Machine.execAddAC s
  | .addAD => Sys2Proof.Machine.execAddAD s
  | .addAE => Sys2Proof.Machine.execAddAE s
  | .addAH => Sys2Proof.Machine.execAddAH s
  | .addAL => Sys2Proof.Machine.execAddAL s
  | .addAMemHl => Sys2Proof.Machine.execAddAMemHl s
  | .addAA => Sys2Proof.Machine.execAddAA s
  | .adcAB => Sys2Proof.Machine.execAdcAB s
  | .adcAC => Sys2Proof.Machine.execAdcAC s
  | .adcAD => Sys2Proof.Machine.execAdcAD s
  | .adcAE => Sys2Proof.Machine.execAdcAE s
  | .adcAH => Sys2Proof.Machine.execAdcAH s
  | .adcAL => Sys2Proof.Machine.execAdcAL s
  | .adcAMemHl => Sys2Proof.Machine.execAdcAMemHl s
  | .adcAA => Sys2Proof.Machine.execAdcAA s
  | .subAB => Sys2Proof.Machine.execSubAB s
  | .subAC => Sys2Proof.Machine.execSubAC s
  | .subAD => Sys2Proof.Machine.execSubAD s
  | .subAE => Sys2Proof.Machine.execSubAE s
  | .subAH => Sys2Proof.Machine.execSubAH s
  | .subAL => Sys2Proof.Machine.execSubAL s
  | .subAMemHl => Sys2Proof.Machine.execSubAMemHl s
  | .subAA => Sys2Proof.Machine.execSubAA s
  | .sbcAB => Sys2Proof.Machine.execSbcAB s
  | .sbcAC => Sys2Proof.Machine.execSbcAC s
  | .sbcAD => Sys2Proof.Machine.execSbcAD s
  | .sbcAE => Sys2Proof.Machine.execSbcAE s
  | .sbcAH => Sys2Proof.Machine.execSbcAH s
  | .sbcAL => Sys2Proof.Machine.execSbcAL s
  | .sbcAMemHl => Sys2Proof.Machine.execSbcAMemHl s
  | .sbcAA => Sys2Proof.Machine.execSbcAA s
  | .andAB => Sys2Proof.Machine.execAndAB s
  | .andAC => Sys2Proof.Machine.execAndAC s
  | .andAD => Sys2Proof.Machine.execAndAD s
  | .andAE => Sys2Proof.Machine.execAndAE s
  | .andAH => Sys2Proof.Machine.execAndAH s
  | .andAL => Sys2Proof.Machine.execAndAL s
  | .andAMemHl => Sys2Proof.Machine.execAndAMemHl s
  | .andAA => Sys2Proof.Machine.execAndAA s
  | .xorAB => Sys2Proof.Machine.execXorAB s
  | .xorAC => Sys2Proof.Machine.execXorAC s
  | .xorAD => Sys2Proof.Machine.execXorAD s
  | .xorAE => Sys2Proof.Machine.execXorAE s
  | .xorAH => Sys2Proof.Machine.execXorAH s
  | .xorAL => Sys2Proof.Machine.execXorAL s
  | .xorAMemHl => Sys2Proof.Machine.execXorAMemHl s
  | .xorAA => Sys2Proof.Machine.execXorAA s
  | .orAB => Sys2Proof.Machine.execOrAB s
  | .orAC => Sys2Proof.Machine.execOrAC s
  | .orAD => Sys2Proof.Machine.execOrAD s
  | .orAE => Sys2Proof.Machine.execOrAE s
  | .orAH => Sys2Proof.Machine.execOrAH s
  | .orAL => Sys2Proof.Machine.execOrAL s
  | .orAMemHl => Sys2Proof.Machine.execOrAMemHl s
  | .orAA => Sys2Proof.Machine.execOrAA s
  | .unimplCpB => Sys2Proof.Machine.execUnimplCpB s
  | .unimplCpC => Sys2Proof.Machine.execUnimplCpC s
  | .unimplCpD => Sys2Proof.Machine.execUnimplCpD s
  | .unimplCpE => Sys2Proof.Machine.execUnimplCpE s
  | .unimplCpH => Sys2Proof.Machine.execUnimplCpH s
  | .unimplCpL => Sys2Proof.Machine.execUnimplCpL s
  | .unimplCpMemHl => Sys2Proof.Machine.execUnimplCpMemHl s
  | .unimplCpA => Sys2Proof.Machine.execUnimplCpA s
  | .unimplRetNz => Sys2Proof.Machine.execUnimplRetNz s
  | .popBc => Sys2Proof.Machine.execPopBc s
  | .unimplJpNzNn => Sys2Proof.Machine.execUnimplJpNzNn s
  | .unimplJpNn => Sys2Proof.Machine.execUnimplJpNn s
  | .unimplCallNzNn => Sys2Proof.Machine.execUnimplCallNzNn s
  | .pushBc => Sys2Proof.Machine.execPushBc s
  | .addAN n => Sys2Proof.Machine.execAddAN n s
  | .rst00 => Sys2Proof.Machine.execRst00 s
  | .unimplRetZ => Sys2Proof.Machine.execUnimplRetZ s
  | .unimplRet => Sys2Proof.Machine.execUnimplRet s
  | .unimplJpZNn => Sys2Proof.Machine.execUnimplJpZNn s
  | .prefixCb sel => Sys2Proof.Machine.execPrefixCb sel s
  | .unimplCallZNn => Sys2Proof.Machine.execUnimplCallZNn s
  | .unimplCallNn => Sys2Proof.Machine.execUnimplCallNn s
  | .adcAN n => Sys2Proof.Machine.execAdcAN n s
  | .rst08 => Sys2Proof.Machine.execRst08 s
  | .unimplRetNc => Sys2Proof.Machine.execUnimplRetNc s
  | .popDe => Sys2Proof.Machine.execPopDe s
  | .unimplJpNcNn => Sys2Proof.Machine.execUnimplJpNcNn s
  | .invalidD3 => Sys2Proof.Machine.execInvalidD3 s
  | .unimplCallNcNn => Sys2Proof.Machine.execUnimplCallNcNn s
  | .pushDe => Sys2Proof.Machine.execPushDe s
  | .subAN n => Sys2Proof.Machine.execSubAN n s
  | .rst10 => Sys2Proof.Machine.execRst10 s
  | .unimplRetC => Sys2Proof.Machine.execUnimplRetC s
  | .unimplReti => Sys2Proof.Machine.execUnimplReti s
  | .unimplJpCNn => Sys2Proof.Machine.execUnimplJpCNn s
  | .invalidDB => Sys2Proof.Machine.execInvalidDB s
  | .unimplCallCNn => Sys2Proof.Machine.execUnimplCallCNn s
  | .invalidDD => Sys2Proof.Machine.execInvalidDD s
  | .sbcAN n => Sys2Proof.Machine.execSbcAN n s
  | .rst18 => Sys2Proof.Machine.execRst18 s
  | .unimplLdhMemNA => Sys2Proof.Machine.execUnimplLdhMemNA s
  | .popHl => Sys2Proof.Machine.execPopHl s
  | .unimplLdMemCA => Sys2Proof.Machine.execUnimplLdMemCA s
  | .invalidE3 => Sys2Proof.Machine.execInvalidE3 s
  | .invalidE4 => Sys2Proof.Machine.execInvalidE4 s
  | .pushHl => Sys2Proof.Machine.execPushHl s
  | .andAN n => Sys2Proof.Machine.execAndAN n s
  | .rst20 => Sys2Proof.Machine.execRst20 s
  | .unimplAddSpE => Sys2Proof.Machine.execUnimplAddSpE s
  | .unimplJpHl => Sys2Proof.Machine.execUnimplJpHl s
  | .unimplLdMemNnA => Sys2Proof.Machine.execUnimplLdMemNnA s
  | .invalidEB => Sys2Proof.Machine.execInvalidEB s
  | .invalidEC => Sys2Proof.Machine.execInvalidEC s
  | .invalidED => Sys2Proof.Machine.execInvalidED s
  | .xorAN n => Sys2Proof.Machine.execXorAN n s
  | .rst28 => Sys2Proof.Machine.execRst28 s
  | .unimplLdhAMemN => Sys2Proof.Machine.execUnimplLdhAMemN s
  | .popAf => Sys2Proof.Machine.execPopAf s
  | .unimplLdAMemC => Sys2Proof.Machine.execUnimplLdAMemC s
  | .unimplDi => Sys2Proof.Machine.execUnimplDi s
  | .invalidF4 => Sys2Proof.Machine.execInvalidF4 s
  | .pushAf => Sys2Proof.Machine.execPushAf s
  | .orAN n => Sys2Proof.Machine.execOrAN n s
  | .rst30 => Sys2Proof.Machine.execRst30 s
  | .unimplLdHlSpPlusE => Sys2Proof.Machine.execUnimplLdHlSpPlusE s
  | .unimplLdSpHl => Sys2Proof.Machine.execUnimplLdSpHl s
  | .unimplLdAMemNn => Sys2Proof.Machine.execUnimplLdAMemNn s
  | .unimplEi => Sys2Proof.Machine.execUnimplEi s
  | .invalidFC => Sys2Proof.Machine.execInvalidFC s
  | .invalidFD => Sys2Proof.Machine.execInvalidFD s
  | .unimplCpN => Sys2Proof.Machine.execUnimplCpN s
  | .rst38 => Sys2Proof.Machine.execRst38 s
  | .unimplRlcB => Sys2Proof.Machine.execUnimplRlcB s
  | .unimplRlcC => Sys2Proof.Machine.execUnimplRlcC s
  | .unimplRlcD => Sys2Proof.Machine.execUnimplRlcD s
  | .unimplRlcE => Sys2Proof.Machine.execUnimplRlcE s
  | .unimplRlcH => Sys2Proof.Machine.execUnimplRlcH s
  | .unimplRlcL => Sys2Proof.Machine.execUnimplRlcL s
  | .unimplRlcMemHl => Sys2Proof.Machine.execUnimplRlcMemHl s
  | .unimplRlcA => Sys2Proof.Machine.execUnimplRlcA s
  | .unimplRrcB => Sys2Proof.Machine.execUnimplRrcB s
  | .unimplRrcC => Sys2Proof.Machine.execUnimplRrcC s
  | .unimplRrcD => Sys2Proof.Machine.execUnimplRrcD s
  | .unimplRrcE => Sys2Proof.Machine.execUnimplRrcE s
  | .unimplRrcH => Sys2Proof.Machine.execUnimplRrcH s
  | .unimplRrcL => Sys2Proof.Machine.execUnimplRrcL s
  | .unimplRrcMemHl => Sys2Proof.Machine.execUnimplRrcMemHl s
  | .unimplRrcA => Sys2Proof.Machine.execUnimplRrcA s
  | .unimplRlB => Sys2Proof.Machine.execUnimplRlB s
  | .unimplRlC => Sys2Proof.Machine.execUnimplRlC s
  | .unimplRlD => Sys2Proof.Machine.execUnimplRlD s
  | .unimplRlE => Sys2Proof.Machine.execUnimplRlE s
  | .unimplRlH => Sys2Proof.Machine.execUnimplRlH s
  | .unimplRlL => Sys2Proof.Machine.execUnimplRlL s
  | .unimplRlMemHl => Sys2Proof.Machine.execUnimplRlMemHl s
  | .unimplRlA => Sys2Proof.Machine.execUnimplRlA s
  | .unimplRrB => Sys2Proof.Machine.execUnimplRrB s
  | .unimplRrC => Sys2Proof.Machine.execUnimplRrC s
  | .unimplRrD => Sys2Proof.Machine.execUnimplRrD s
  | .unimplRrE => Sys2Proof.Machine.execUnimplRrE s
  | .unimplRrH => Sys2Proof.Machine.execUnimplRrH s
  | .unimplRrL => Sys2Proof.Machine.execUnimplRrL s
  | .unimplRrMemHl => Sys2Proof.Machine.execUnimplRrMemHl s
  | .unimplRrA => Sys2Proof.Machine.execUnimplRrA s
  | .unimplSlaB => Sys2Proof.Machine.execUnimplSlaB s
  | .unimplSlaC => Sys2Proof.Machine.execUnimplSlaC s
  | .unimplSlaD => Sys2Proof.Machine.execUnimplSlaD s
  | .unimplSlaE => Sys2Proof.Machine.execUnimplSlaE s
  | .unimplSlaH => Sys2Proof.Machine.execUnimplSlaH s
  | .unimplSlaL => Sys2Proof.Machine.execUnimplSlaL s
  | .unimplSlaMemHl => Sys2Proof.Machine.execUnimplSlaMemHl s
  | .unimplSlaA => Sys2Proof.Machine.execUnimplSlaA s
  | .unimplSraB => Sys2Proof.Machine.execUnimplSraB s
  | .unimplSraC => Sys2Proof.Machine.execUnimplSraC s
  | .unimplSraD => Sys2Proof.Machine.execUnimplSraD s
  | .unimplSraE => Sys2Proof.Machine.execUnimplSraE s
  | .unimplSraH => Sys2Proof.Machine.execUnimplSraH s
  | .unimplSraL => Sys2Proof.Machine.execUnimplSraL s
  | .unimplSraMemHl => Sys2Proof.Machine.execUnimplSraMemHl s
  | .unimplSraA => Sys2Proof.Machine.execUnimplSraA s
  | .swapB => Sys2Proof.Machine.execSwapB s
  | .swapC => Sys2Proof.Machine.execSwapC s
  | .swapD => Sys2Proof.Machine.execSwapD s
  | .swapE => Sys2Proof.Machine.execSwapE s
  | .swapH => Sys2Proof.Machine.execSwapH s
  | .swapL => Sys2Proof.Machine.execSwapL s
  | .swapMemHl => Sys2Proof.Machine.execSwapMemHl s
  | .swapA => Sys2Proof.Machine.execSwapA s
  | .unimplSrlB => Sys2Proof.Machine.execUnimplSrlB s
  | .unimplSrlC => Sys2Proof.Machine.execUnimplSrlC s
  | .unimplSrlD => Sys2Proof.Machine.execUnimplSrlD s
  | .unimplSrlE => Sys2Proof.Machine.execUnimplSrlE s
  | .unimplSrlH => Sys2Proof.Machine.execUnimplSrlH s
  | .unimplSrlL => Sys2Proof.Machine.execUnimplSrlL s
  | .unimplSrlMemHl => Sys2Proof.Machine.execUnimplSrlMemHl s
  | .unimplSrlA => Sys2Proof.Machine.execUnimplSrlA s
  | .bit0B => Sys2Proof.Machine.execBit0B s
  | .bit0C => Sys2Proof.Machine.execBit0C s
  | .bit0D => Sys2Proof.Machine.execBit0D s
  | .bit0E => Sys2Proof.Machine.execBit0E s
  | .bit0H => Sys2Proof.Machine.execBit0H s
  | .bit0L => Sys2Proof.Machine.execBit0L s
  | .bit0MemHl => Sys2Proof.Machine.execBit0MemHl s
  | .bit0A => Sys2Proof.Machine.execBit0A s
  | .bit1B => Sys2Proof.Machine.execBit1B s
  | .bit1C => Sys2Proof.Machine.execBit1C s
  | .bit1D => Sys2Proof.Machine.execBit1D s
  | .bit1E => Sys2Proof.Machine.execBit1E s
  | .bit1H => Sys2Proof.Machine.execBit1H s
  | .bit1L => Sys2Proof.Machine.execBit1L s
  | .bit1MemHl => Sys2Proof.Machine.execBit1MemHl s
  | .bit1A => Sys2Proof.Machine.execBit1A s
  | .bit2B => Sys2Proof.Machine.execBit2B s
  | .bit2C => Sys2Proof.Machine.execBit2C s
  | .bit2D => Sys2Proof.Machine.execBit2D s
  | .bit2E => Sys2Proof.Machine.execBit2E s
  | .bit2H => Sys2Proof.Machine.execBit2H s
  | .bit2L => Sys2Proof.Machine.execBit2L s
  | .bit2MemHl => Sys2Proof.Machine.execBit2MemHl s
  | .bit2A => Sys2Proof.Machine.execBit2A s
  | .bit3B => Sys2Proof.Machine.execBit3B s
  | .bit3C => Sys2Proof.Machine.execBit3C s
  | .bit3D => Sys2Proof.Machine.execBit3D s
  | .bit3E => Sys2Proof.Machine.execBit3E s
  | .bit3H => Sys2Proof.Machine.execBit3H s
  | .bit3L => Sys2Proof.Machine.execBit3L s
  | .bit3MemHl => Sys2Proof.Machine.execBit3MemHl s
  | .bit3A => Sys2Proof.Machine.execBit3A s
  | .bit4B => Sys2Proof.Machine.execBit4B s
  | .bit4C => Sys2Proof.Machine.execBit4C s
  | .bit4D => Sys2Proof.Machine.execBit4D s
  | .bit4E => Sys2Proof.Machine.execBit4E s
  | .bit4H => Sys2Proof.Machine.execBit4H s
  | .bit4L => Sys2Proof.Machine.execBit4L s
  | .bit4MemHl => Sys2Proof.Machine.execBit4MemHl s
  | .bit4A => Sys2Proof.Machine.execBit4A s
  | .bit5B => Sys2Proof.Machine.execBit5B s
  | .bit5C => Sys2Proof.Machine.execBit5C s
  | .bit5D => Sys2Proof.Machine.execBit5D s
  | .bit5E => Sys2Proof.Machine.execBit5E s
  | .bit5H => Sys2Proof.Machine.execBit5H s
  | .bit5L => Sys2Proof.Machine.execBit5L s
  | .bit5MemHl => Sys2Proof.Machine.execBit5MemHl s
  | .bit5A => Sys2Proof.Machine.execBit5A s
  | .bit6B => Sys2Proof.Machine.execBit6B s
  | .bit6C => Sys2Proof.Machine.execBit6C s
  | .bit6D => Sys2Proof.Machine.execBit6D s
  | .bit6E => Sys2Proof.Machine.execBit6E s
  | .bit6H => Sys2Proof.Machine.execBit6H s
  | .bit6L => Sys2Proof.Machine.execBit6L s
  | .bit6MemHl => Sys2Proof.Machine.execBit6MemHl s
  | .bit6A => Sys2Proof.Machine.execBit6A s
  | .bit7B => Sys2Proof.Machine.execBit7B s
  | .bit7C => Sys2Proof.Machine.execBit7C s
  | .bit7D => Sys2Proof.Machine.execBit7D s
  | .bit7E => Sys2Proof.Machine.execBit7E s
  | .bit7H => Sys2Proof.Machine.execBit7H s
  | .bit7L => Sys2Proof.Machine.execBit7L s
  | .bit7MemHl => Sys2Proof.Machine.execBit7MemHl s
  | .bit7A => Sys2Proof.Machine.execBit7A s
  | .res0B => Sys2Proof.Machine.execRes0B s
  | .res0C => Sys2Proof.Machine.execRes0C s
  | .res0D => Sys2Proof.Machine.execRes0D s
  | .res0E => Sys2Proof.Machine.execRes0E s
  | .res0H => Sys2Proof.Machine.execRes0H s
  | .res0L => Sys2Proof.Machine.execRes0L s
  | .res0MemHl => Sys2Proof.Machine.execRes0MemHl s
  | .res0A => Sys2Proof.Machine.execRes0A s
  | .res1B => Sys2Proof.Machine.execRes1B s
  | .res1C => Sys2Proof.Machine.execRes1C s
  | .res1D => Sys2Proof.Machine.execRes1D s
  | .res1E => Sys2Proof.Machine.execRes1E s
  | .res1H => Sys2Proof.Machine.execRes1H s
  | .res1L => Sys2Proof.Machine.execRes1L s
  | .res1MemHl => Sys2Proof.Machine.execRes1MemHl s
  | .res1A => Sys2Proof.Machine.execRes1A s
  | .res2B => Sys2Proof.Machine.execRes2B s
  | .res2C => Sys2Proof.Machine.execRes2C s
  | .res2D => Sys2Proof.Machine.execRes2D s
  | .res2E => Sys2Proof.Machine.execRes2E s
  | .res2H => Sys2Proof.Machine.execRes2H s
  | .res2L => Sys2Proof.Machine.execRes2L s
  | .res2MemHl => Sys2Proof.Machine.execRes2MemHl s
  | .res2A => Sys2Proof.Machine.execRes2A s
  | .res3B => Sys2Proof.Machine.execRes3B s
  | .res3C => Sys2Proof.Machine.execRes3C s
  | .res3D => Sys2Proof.Machine.execRes3D s
  | .res3E => Sys2Proof.Machine.execRes3E s
  | .res3H => Sys2Proof.Machine.execRes3H s
  | .res3L => Sys2Proof.Machine.execRes3L s
  | .res3MemHl => Sys2Proof.Machine.execRes3MemHl s
  | .res3A => Sys2Proof.Machine.execRes3A s
  | .res4B => Sys2Proof.Machine.execRes4B s
  | .res4C => Sys2Proof.Machine.execRes4C s
  | .res4D => Sys2Proof.Machine.execRes4D s
  | .res4E => Sys2Proof.Machine.execRes4E s
  | .res4H => Sys2Proof.Machine.execRes4H s
  | .res4L => Sys2Proof.Machine.execRes4L s
  | .res4MemHl => Sys2Proof.Machine.execRes4MemHl s
  | .res4A => Sys2Proof.Machine.execRes4A s
  | .res5B => Sys2Proof.Machine.execRes5B s
  | .res5C => Sys2Proof.Machine.execRes5C s
  | .res5D => Sys2Proof.Machine.execRes5D s
  | .res5E => Sys2Proof.Machine.execRes5E s
  | .res5H => Sys2Proof.Machine.execRes5H s
  | .res5L => Sys2Proof.Machine.execRes5L s
  | .res5MemHl => Sys2Proof.Machine.execRes5MemHl s
  | .res5A => Sys2Proof.Machine.execRes5A s
  | .res6B => Sys2Proof.Machine.execRes6B s
  | .res6C => Sys2Proof.Machine.execRes6C s
  | .res6D => Sys2Proof.Machine.execRes6D s
  | .res6E => Sys2Proof.Machine.execRes6E s
  | .res6H => Sys2Proof.Machine.execRes6H s
  | .res6L => Sys2Proof.Machine.execRes6L s
  | .res6MemHl => Sys2Proof.Machine.execRes6MemHl s
  | .res6A => Sys2Proof.Machine.execRes6A s
  | .res7B => Sys2Proof.Machine.execRes7B s
  | .res7C => Sys2Proof.Machine.execRes7C s
  | .res7D => Sys2Proof.Machine.execRes7D s
  | .res7E => Sys2Proof.Machine.execRes7E s
  | .res7H => Sys2Proof.Machine.execRes7H s
  | .res7L => Sys2Proof.Machine.execRes7L s
  | .res7MemHl => Sys2Proof.Machine.execRes7MemHl s
  | .res7A => Sys2Proof.Machine.execRes7A s
  | .set0B => Sys2Proof.Machine.execSet0B s
  | .set0C => Sys2Proof.Machine.execSet0C s
  | .set0D => Sys2Proof.Machine.execSet0D s
  | .set0E => Sys2Proof.Machine.execSet0E s
  | .set0H => Sys2Proof.Machine.execSet0H s
  | .set0L => Sys2Proof.Machine.execSet0L s
  | .set0MemHl => Sys2Proof.Machine.execSet0MemHl s
  | .set0A => Sys2Proof.Machine.execSet0A s
  | .set1B => Sys2Proof.Machine.execSet1B s
  | .set1C => Sys2Proof.Machine.execSet1C s
  | .set1D => Sys2Proof.Machine.execSet1D s
  | .set1E => Sys2Proof.Machine.execSet1E s
  | .set1H => Sys2Proof.Machine.execSet1H s
  | .set1L => Sys2Proof.Machine.execSet1L s
  | .set1MemHl => Sys2Proof.Machine.execSet1MemHl s
  | .set1A => Sys2Proof.Machine.execSet1A s
  | .set2B => Sys2Proof.Machine.execSet2B s
  | .set2C => Sys2Proof.Machine.execSet2C s
  | .set2D => Sys2Proof.Machine.execSet2D s
  | .set2E => Sys2Proof.Machine.execSet2E s
  | .set2H => Sys2Proof.Machine.execSet2H s
  | .set2L => Sys2Proof.Machine.execSet2L s
  | .set2MemHl => Sys2Proof.Machine.execSet2MemHl s
  | .set2A => Sys2Proof.Machine.execSet2A s
  | .set3B => Sys2Proof.Machine.execSet3B s
  | .set3C => Sys2Proof.Machine.execSet3C s
  | .set3D => Sys2Proof.Machine.execSet3D s
  | .set3E => Sys2Proof.Machine.execSet3E s
  | .set3H => Sys2Proof.Machine.execSet3H s
  | .set3L => Sys2Proof.Machine.execSet3L s
  | .set3MemHl => Sys2Proof.Machine.execSet3MemHl s
  | .set3A => Sys2Proof.Machine.execSet3A s
  | .set4B => Sys2Proof.Machine.execSet4B s
  | .set4C => Sys2Proof.Machine.execSet4C s
  | .set4D => Sys2Proof.Machine.execSet4D s
  | .set4E => Sys2Proof.Machine.execSet4E s
  | .set4H => Sys2Proof.Machine.execSet4H s
  | .set4L => Sys2Proof.Machine.execSet4L s
  | .set4MemHl => Sys2Proof.Machine.execSet4MemHl s
  | .set4A => Sys2Proof.Machine.execSet4A s
  | .set5B => Sys2Proof.Machine.execSet5B s
  | .set5C => Sys2Proof.Machine.execSet5C s
  | .set5D => Sys2Proof.Machine.execSet5D s
  | .set5E => Sys2Proof.Machine.execSet5E s
  | .set5H => Sys2Proof.Machine.execSet5H s
  | .set5L => Sys2Proof.Machine.execSet5L s
  | .set5MemHl => Sys2Proof.Machine.execSet5MemHl s
  | .set5A => Sys2Proof.Machine.execSet5A s
  | .set6B => Sys2Proof.Machine.execSet6B s
  | .set6C => Sys2Proof.Machine.execSet6C s
  | .set6D => Sys2Proof.Machine.execSet6D s
  | .set6E => Sys2Proof.Machine.execSet6E s
  | .set6H => Sys2Proof.Machine.execSet6H s
  | .set6L => Sys2Proof.Machine.execSet6L s
  | .set6MemHl => Sys2Proof.Machine.execSet6MemHl s
  | .set6A => Sys2Proof.Machine.execSet6A s
  | .set7B => Sys2Proof.Machine.execSet7B s
  | .set7C => Sys2Proof.Machine.execSet7C s
  | .set7D => Sys2Proof.Machine.execSet7D s
  | .set7E => Sys2Proof.Machine.execSet7E s
  | .set7H => Sys2Proof.Machine.execSet7H s
  | .set7L => Sys2Proof.Machine.execSet7L s
  | .set7MemHl => Sys2Proof.Machine.execSet7MemHl s
  | .set7A => Sys2Proof.Machine.execSet7A s

end Sys2Proof.Machine
end

