-- ==== Sys2Proof/Machine/Fetch.lean ====
section
/-! DEFINITION. Fetching an instruction (46_dispatch.md R240), and placing the bytes of one where the next step fetches. -/

namespace Sys2Proof.Machine

/-- The instruction at `pc`, and the state with `pc` past its last byte. The second byte is fetched only where the first asks
for one (46_dispatch.md R240; 30_encoding.md R81). -/
def fetchInstr (s : State) : Instr × State :=
  let first := fetch8 s
  if hasSecondByte first.1 then
    let second := fetch8 first.2
    (decodeBytes first.1 second.1, second.2)
  else (decodeBytes first.1 0x00, first.2)

/-- `s` with two bytes stored at `pc` and `pc + 1`, and running. -/
def placeAtPc (first second : Byte) (s : State) : State :=
  { (s.memWrite s.pc first).memWrite (s.pc + 1) second with status := .running }

end Sys2Proof.Machine
end

