-- ==== Sys2Proof/Machine/Step.lean ====
section
/-! DEFINITION. One `Step()` (46_dispatch.md R241) and the host's placing of an instruction word. -/

namespace Sys2Proof.Machine

/-- `Step()`: a running CORE fetches one instruction and executes it; a faulted CORE does nothing (60_exceptions.md R266,
log entry 5). -/
def step (s : State) : Host.Outcome State Fault Refusal :=
  match s.status with
  | .running => exec (fetchInstr s).1 (fetchInstr s).2
  | .faulted _ => .next s

/-- `s` with the instruction whose bits are `w`, as spec/opcode_table.json numbers them, stored at `pc`, and running: what the
next step fetches (log entries 8 and 9). -/
def State.withFetchWord (s : State) (nbits w : Nat) : State :=
  placeAtPc (tableBytes nbits w).1 (tableBytes nbits w).2 s

end Sys2Proof.Machine
end

