-- ==== Sys2Proof/Machine/Bus.lean ====
section
/-! DEFINITION. The bus transactions of one step, in order (20_memory.md R58, log entry 14). They are no state: a list computed
from the state before the step. -/

namespace Sys2Proof.Machine

/-- One bus transaction (20_memory.md R52); a fetch is a read at `pc` (R51). -/
inductive BusOp where
  | fetch (addr : Word) (v : Byte)
  | read (addr : Word) (v : Byte)
  | write (addr : Word) (v : Byte)
  deriving DecidableEq, Repr

/-- The transactions of an instruction after its fetches (R58), in the state with `pc` past its last byte. -/
def dataTrace (form : Form) (s : State) : List BusOp :=
  let hl := s.pair .hl
  let atHl := s.memRead hl
  match form with
  | .nop => []
  | .ldImm _ _ => []
  | .ldReg _ _ => []
  | .ldFromHl _ => [.read hl atHl]
  | .ldToHl r => [.write hl (s.reg r.toReg)]
  | .ldAFrom p => [.read (s.pair p.toPair) (s.memRead (s.pair p.toPair))]
  | .ldATo p => [.write (s.pair p.toPair) s.a]
  | .alu _ (.reg _) => []
  | .alu _ .memHl => [.read hl atHl]
  | .aluImm _ _ => []
  | .unary _ (.reg _) => []
  | .unary fn .memHl => [.read hl atHl, .write hl (unaryOp fn atHl)]
  | .bitOp _ _ (.reg _) => []
  | .bitOp .test _ .memHl => [.read hl atHl]
  | .bitOp .reset b .memHl => [.read hl atHl, .write hl (atHl &&& ~~~(bitMask b.toNat))]
  | .bitOp .set b .memHl => [.read hl atHl, .write hl (atHl ||| bitMask b.toNat)]
  | .push p => [.write s.sp (hiByte (s.pair p)), .write (s.sp - 1) (loByte (s.pair p))]
  | .pop _ => [.read (s.sp + 1) (s.memRead (s.sp + 1)), .read (s.sp + 2) (s.memRead (s.sp + 2))]
  | .rst _ => [.write s.sp (hiByte s.pc), .write (s.sp - 1) (loByte s.pc)]

/-- The fetches of a step (R58): the opcode, and the second byte where there is one. -/
def fetchTrace (s : State) : List BusOp :=
  let op := s.memRead s.pc
  if hasSecondByte op then [.fetch s.pc op, .fetch (s.pc + 1) (s.memRead (s.pc + 1))] else [.fetch s.pc op]

/-- The transactions of one step (R58); a faulted CORE makes none (60_exceptions.md R266). -/
def stepTrace (s : State) : List BusOp :=
  match s.status with
  | .faulted _ => []
  | .running =>
    match (fetchInstr s).1.form with
    | some form => fetchTrace s ++ dataTrace form (fetchInstr s).2
    | none => fetchTrace s

/-- Where a transaction stands in the order of R58: fetches, then reads, then writes. -/
def BusOp.phase : BusOp → Nat
  | .fetch _ _ => 0
  | .read _ _ => 1
  | .write _ _ => 2

/-- The addresses a list of transactions fetches or reads. -/
def readAddrs : List BusOp → List Word
  | [] => []
  | .fetch addr _ :: rest => addr :: readAddrs rest
  | .read addr _ :: rest => addr :: readAddrs rest
  | .write _ _ :: rest => readAddrs rest

/-- Memory after the writes of a list of transactions. -/
def applyWrites : List BusOp → Memory → Memory
  | [], m => m
  | .write addr v :: rest, m => applyWrites rest (m.write addr v)
  | .fetch _ _ :: rest, m => applyWrites rest m
  | .read _ _ :: rest, m => applyWrites rest m

/-- Whether every fetch and read of a list of transactions carries the byte memory holds when it happens (20_memory.md R61). -/
def readsAgree : List BusOp → Memory → Prop
  | [], _ => True
  | .write addr v :: rest, m => readsAgree rest (m.write addr v)
  | .fetch addr v :: rest, m => m.read addr = v ∧ readsAgree rest m
  | .read addr v :: rest, m => m.read addr = v ∧ readsAgree rest m

end Sys2Proof.Machine
end

