-- ==== Sys2Proof/Machine/HostOps.lean ====
section
/-! DEFINITION. The host's operations beside `Reset()` and `Step()`: load-image (70_reset_and_hazards.md R297) and `Run()`
(46_dispatch.md R248). -/

namespace Sys2Proof.Machine

/-- Bytes copied to memory at increasing addresses from one on. -/
def copyBytes (cfg : Params) : List Byte → Word → State → State
  | [], _, s => s
  | v :: rest, addr, s => copyBytes cfg rest (addrNext cfg addr) (s.memWrite addr v)

/-- `LoadImage(buf)` (70_reset_and_hazards.md R297): copied from IMAGE_BASE on, or refused with the state as it was where the
buffer is longer than memory. The loader reports the refusal (60_exceptions.md R280); `status` is not touched. -/
def loadImage (cfg : Params) (buf : List Byte) (s : State) : Option State :=
  if buf.length ≤ Config.memSize then some (copyBytes cfg buf cfg.imageBase s) else none

/-- `Run()` (46_dispatch.md R248) over the samples of the host's stop signal, one before each step (60_exceptions.md R270); where
the samples end, the host stops. -/
def run : List Bool → State → Host.Outcome State Fault Refusal
  | [], s => .next s
  | stop :: rest, s =>
    match s.status with
    | .faulted _ => .next s
    | .running =>
      if stop then .next s
      else
        match step s with
        | .next t => run rest t
        | .fault r => .fault r
        | .refused r => .refused r

end Sys2Proof.Machine
end

