-- ==== Sys2Proof/Machine/Masks.lean ====
section
/-! DEFINITION. The register-mask convention of 40_operand_resolution.md R110 to R117 and its failure (R119). It is how the
source's software names operands; no instruction reads a mask, and the meanings use the tagged operands of R118 (log
entry 10). An operation answers none where its mask is invalid, and `orInvalidMask` gives that the outcome of
60_exceptions.md R264. -/

namespace Sys2Proof.Machine

/-- A RegisterMask (R110). -/
abbrev RegMask := BitVec 8

/-- The storage index of a register (10_state.md R20; DESIGN CHOICE of the spec, D15: log entry 10). -/
def regIndex : Reg → Nat
  | .a => 0
  | .f => 1
  | .b => 2
  | .c => 3
  | .d => 4
  | .e => 5
  | .h => 6
  | .l => 7

/-- The register stored at an index (10_state.md R20). -/
def regAt : Nat → Option Reg
  | 0 => some .a
  | 1 => some .f
  | 2 => some .b
  | 3 => some .c
  | 4 => some .d
  | 5 => some .e
  | 6 => some .h
  | 7 => some .l
  | _ => none

/-- The mask of a register (R110, R112): `1 << index`. -/
def regMask (r : Reg) : RegMask := bitMask (regIndex r)

/-- The mask of a pair (R110): the OR of its registers' masks. -/
def pairMask (p : Pair) : RegMask := regMask p.hi ||| regMask p.lo

/-- The mask of an operand specifier. -/
def operandMask : Operand → RegMask
  | .reg r => regMask r
  | .mem p => pairMask p

/-- The positions of a mask's 1 bits, from low to high (R113). -/
def bitPositions (m : RegMask) : List Nat := (List.range 8).filter (bitAt m)

/-- `PopulationCount(mask)` (R111). -/
def populationCount (m : RegMask) : Nat := (bitPositions m).length

/-- `BitPosition(mask)` (R112): valid only when the population count is 1. -/
def bitPosition (m : RegMask) : Option Nat :=
  match bitPositions m with
  | [i] => some i
  | _ => none

/-- The register a one-bit mask names. -/
def maskReg (m : RegMask) : Option Reg := (bitPosition m).bind regAt

/-- The pair a mask names (R110): one of the four, and no other two-bit mask (R119; DESIGN CHOICE of the spec, D30: log
entry 10). -/
def maskPair (m : RegMask) : Option Pair :=
  if m = pairMask .af then some .af
  else if m = pairMask .bc then some .bc
  else if m = pairMask .de then some .de
  else if m = pairMask .hl then some .hl
  else none

/-- `ComposeAddress(mask)` (R113): the registers at the mask's two positions, the lower position first, as high and low byte. -/
def composeAddress (m : RegMask) (s : State) : Option Word :=
  if (maskPair m).isSome then
    match (bitPositions m).filterMap regAt with
    | [hi, lo] => some (joinBytes (s.reg hi) (s.reg lo))
    | _ => none
  else none

/-- `ReadOperand(mask)` (R116). -/
def readMask (m : RegMask) (s : State) : Option Byte :=
  if populationCount m = 1 then (maskReg m).map s.reg
  else if populationCount m = 2 then (composeAddress m s).map s.memRead
  else none

/-- `WriteOperand(mask, v)` (R117). -/
def writeMask (m : RegMask) (v : Byte) (s : State) : Option State :=
  if populationCount m = 1 then (maskReg m).map (fun r => s.setReg r v)
  else if populationCount m = 2 then (composeAddress m s).map (fun addr => s.memWrite addr v)
  else none

/-- `LoadImmediate(mask)` (R114): one register, not F; the byte is fetched here. -/
def loadImmediateMask (cfg : Params) (m : RegMask) (s : State) : Option State :=
  if populationCount m = 1 ∧ m ≠ regMask .f then
    let fetched := fetch8 s cfg
    (maskReg m).map (fun r => fetched.2.setReg r fetched.1)
  else none

/-- `Move(dst, src)` (R115) by population counts. Pair to pair is "not defined" there; DESIGN CHOICE: it is rejected like an
invalid mask (log entry 10). -/
def moveMask (dst src : RegMask) (s : State) : Option State :=
  if populationCount dst = 2 ∧ populationCount src = 2 then none
  else (readMask src s).bind (fun v => writeMask dst v s)

/-- `Push(pairMask)` (45_stack.md R221): requires population count 2. -/
def pushMask (cfg : Params) (m : RegMask) (s : State) : Option State := (composeAddress m s).map (fun v => push16 v s cfg)

/-- `Pop(pairMask)` (45_stack.md R222): requires population count 2. -/
def popMask (cfg : Params) (m : RegMask) (s : State) : Option State := (maskPair m).map (fun p => pop cfg p s)

/-- The outcome of an operation that met an invalid mask (60_exceptions.md R264): fault code 3 for the instruction at hand,
nothing else changed (R265). -/
def orInvalidMask (opcode : Byte) (addr : Word) (ext : Bool) (outcome : Option State) (s : State) : State :=
  match outcome with
  | some t => t
  | none => raiseFault .invalidOperandMask opcode addr ext s

end Sys2Proof.Machine
end

