-- ==== Sys2Proof/Safety.lean ====
section
/-! DEFINITION. The terms the statements use: what an instruction may change, what a sound state is, when a run is complete. -/

namespace Sys2Proof.Machine

/-! ## What a form may change -/

/-- The byte F with the four flags and a low nibble (10_state.md R23, R24). -/
def flagByte (z n h c : Bool) (low : Byte) : Byte :=
  (if z then 0x80 else 0) ||| (if n then 0x40 else 0) ||| (if h then 0x20 else 0) ||| (if c then 0x10 else 0) |||
    (low &&& 0x0F)

/-- The byte registers a form writes, F apart (10_state.md R25). -/
def writtenRegs : Form → List Reg
  | .nop => []
  | .ldImm r _ => [r.toReg]
  | .ldReg r _ => [r.toReg]
  | .ldFromHl r => [r.toReg]
  | .ldToHl _ => []
  | .ldAFrom _ => [.a]
  | .ldATo _ => []
  | .alu _ _ => [.a]
  | .aluImm _ _ => [.a]
  | .unary _ (.reg r) => [r.toReg]
  | .unary _ .memHl => []
  | .bitOp .test _ _ => []
  | .bitOp .reset _ (.reg r) => [r.toReg]
  | .bitOp .reset _ .memHl => []
  | .bitOp .set _ (.reg r) => [r.toReg]
  | .bitOp .set _ .memHl => []
  | .push _ => []
  | .pop p => [p.hi, p.lo]
  | .rst _ => []

/-- The bits of F a form writes (10_state.md R33). -/
def writtenFlags : Form → Byte
  | .alu _ _ => 0xF0
  | .aluImm _ _ => 0xF0
  | .unary .inc _ => 0xE0
  | .unary .dec _ => 0xE0
  | .unary .swap _ => 0xF0
  | .bitOp .test _ _ => 0xE0
  | .bitOp .reset _ _ => 0x00
  | .bitOp .set _ _ => 0x00
  | .pop .af => 0xFF
  | .pop .bc => 0x00
  | .pop .de => 0x00
  | .pop .hl => 0x00
  | .nop => 0x00
  | .ldImm _ _ => 0x00
  | .ldReg _ _ => 0x00
  | .ldFromHl _ => 0x00
  | .ldToHl _ => 0x00
  | .ldAFrom _ => 0x00
  | .ldATo _ => 0x00
  | .push _ => 0x00
  | .rst _ => 0x00

/-- The addresses of the bytes a form stores to (20_memory.md R51), in the state its meaning is given. -/
def storedAddrs (form : Form) (s : State) : List Word :=
  match form with
  | .ldToHl _ => [s.pair .hl]
  | .ldATo p => [s.pair p.toPair]
  | .unary _ .memHl => [s.pair .hl]
  | .bitOp .reset _ .memHl => [s.pair .hl]
  | .bitOp .set _ .memHl => [s.pair .hl]
  | .push _ => [s.sp, s.sp - 1]
  | .rst _ => [s.sp, s.sp - 1]
  | .nop => []
  | .ldImm _ _ => []
  | .ldReg _ _ => []
  | .ldFromHl _ => []
  | .ldAFrom _ => []
  | .alu _ _ => []
  | .aluImm _ _ => []
  | .unary _ (.reg _) => []
  | .bitOp .test _ _ => []
  | .bitOp .reset _ (.reg _) => []
  | .bitOp .set _ (.reg _) => []
  | .pop _ => []

/-- `sp` after a form (10_state.md R28; 45_stack.md R227): only PUSH, POP and RST move it, by 2. -/
def spAfter (form : Form) (sp : Word) : Word :=
  match form with
  | .push _ => sp - 2
  | .rst _ => sp - 2
  | .pop _ => sp + 2
  | .nop => sp
  | .ldImm _ _ => sp
  | .ldReg _ _ => sp
  | .ldFromHl _ => sp
  | .ldToHl _ => sp
  | .ldAFrom _ => sp
  | .ldATo _ => sp
  | .alu _ _ => sp
  | .aluImm _ _ => sp
  | .unary _ _ => sp
  | .bitOp _ _ _ => sp

/-! ## Frames -/

/-- Every register outside a list holds what it held. -/
def SameRegsBut (changed : List Reg) (s t : State) : Prop := ∀ r, r ∉ changed → t.reg r = s.reg r

/-- Every byte of memory outside a list of addresses reads as it read. -/
def SameMemBut (stored : List Word) (s t : State) : Prop := ∀ addr, addr ∉ stored → t.memRead addr = s.memRead addr

/-- `pc`, `sp` and `status` are what they were. -/
def SameControl (s t : State) : Prop := t.pc = s.pc ∧ t.sp = s.sp ∧ t.status = s.status

/-- Two states that differ at most in F. -/
def AgreeOffF (s t : State) : Prop := { s with f := t.f } = t

/-- Two states that differ at most in the low nibble of F. -/
def AgreeOffLowNibble (s t : State) : Prop := AgreeOffF s t ∧ s.f &&& 0xF0 = t.f &&& 0xF0

/-! ## Sound states -/

/-- A fault record says what happened (60_exceptions.md R261, R262, R263): `pc` is one past the recorded address, the recorded
byte is there, and it is a byte that faults in the recorded way. -/
def RecordTruthful (s : State) : Prop :=
  match s.status with
  | .running => True
  | .faulted r =>
    s.pc = r.addr + 1 ∧ s.memRead r.addr = r.opcode ∧
      match r.kind with
      | .invalidOpcode => r.ext = false ∧ r.opcode ∈ invalidSet
      | .notImplemented =>
        (r.ext = false ∧ r.opcode ∈ unimplementedPrimarySet) ∨
          (r.ext = true ∧ unimplementedSelector r.opcode = true ∧ s.memRead (r.addr - 1) = Config.prefixByte)
      | .invalidOperandMask => False

/-- The invariant of the machine: memory is in canonical form, and a fault record is truthful. -/
def Inv (s : State) : Prop := s.mem.wf ∧ RecordTruthful s

/-- The convention by which a test program's run is complete (70_reset_and_hazards.md R299, DESIGN CHOICE of the spec, D29: log
entry 24): the terminator byte 0xDD at the address where the program placed it. -/
def RunComplete (terminator : Word) (s : State) : Prop :=
  s.status = .faulted { kind := .invalidOpcode, opcode := 0xDD, addr := terminator, ext := false }

end Sys2Proof.Machine
end

