-- ==== Sys2Proof/Certificates/Slice0/Obligations.lean ====
section
/-! DEFINITION. The statements for the provers. `exec i s` is given the state with `pc` past the instruction's last byte; `step`
fetches and calls it. An instruction is named by its form and fields, `Form.instr`, where one statement covers a family. -/

open Sys2Proof Sys2Proof.Machine

/-! ## Encoding -/

/-- Tier 3. For every well-formed instruction, with every operand byte, decoding its bytes gives it back and leaves the bytes that follow
(30_encoding.md R80, R98). The byte values are the spec's decision D3 (log entry 16). -/
def Obligations.DecodeInvertsEncode : Prop :=
  ∀ (i : Instr) (rest : List Byte), i.wellFormed = true → decode (encode i ++ rest) = .ok i rest

/-- Whatever the decoder reads from bytes is well-formed, and encoding it gives those bytes: each word has one meaning and no bit of it is
dropped (30_encoding.md R98; the byte values are the spec's decision D3, log entry 16). -/
def Obligations.EncodeInvertsDecode : Prop :=
  ∀ (bytes rest : List Byte) (i : Instr), decode bytes = .ok i rest → i.wellFormed = true ∧ encode i ++ rest = bytes

/-- The decoder rejects bytes only where they end too early: no byte, or the second byte missing after one of the fifteen first bytes of a
two-byte instruction (30_encoding.md R81, R98; the byte values are the spec's decision D3, log entry 16). -/
def Obligations.DecoderRejectsOnlyShortInput : Prop :=
  ∀ (bytes : List Byte) (why : DecodeReject), decode bytes = .rejected why ↔
    (bytes = [] ∧ why = .noByte) ∨
    (∃ op, bytes = [op] ∧ why = .secondByteMissing op ∧
      op ∈ ([0xCB, 0x06, 0x0E, 0x16, 0x1E, 0x26, 0x2E, 0x3E, 0xC6, 0xCE, 0xD6, 0xDE, 0xE6, 0xEE, 0xF6] : List Byte))

/-- The bit patterns of 30_encoding.md R82 and R83, one clause a pattern: `r`, `dst`, `q` run over the slot codes of R84, `p` over the pair
codes of R85, `fn` over the function codes of R86. The patterns are the spec's decision D3, with the slot order D32 (log entry 16). -/
def Obligations.FormsHaveTheirBitPatterns : Prop :=
  let slotCode : Slot → Nat := fun q =>
    match q with
    | .reg .b => 0 | .reg .c => 1 | .reg .d => 2 | .reg .e => 3 | .reg .h => 4 | .reg .l => 5 | .memHl => 6 | .reg .a => 7
  let fnCode : AluFn → Nat := fun fn =>
    match fn with
    | .add => 0 | .adc => 1 | .sub => 2 | .sbc => 3 | .and => 4 | .xor => 5 | .or => 6
  let pairCode : Pair → Nat := fun p =>
    match p with
    | .bc => 0 | .de => 1 | .hl => 2 | .af => 3
  let indCode : IndPair → Nat := fun p =>
    match p with
    | .bc => 0 | .de => 1
  let byte : Nat → Byte := BitVec.ofNat 8
  encode Form.nop.instr = [byte 0b00000000] ∧
  (∀ p, encode (Form.ldATo p).instr = [byte (0b00000010 + 16 * indCode p)]) ∧
  (∀ p, encode (Form.ldAFrom p).instr = [byte (0b00001010 + 16 * indCode p)]) ∧
  (∀ q, encode (Form.unary .inc q).instr = [byte (0b00000100 + 8 * slotCode q)]) ∧
  (∀ q, encode (Form.unary .dec q).instr = [byte (0b00000101 + 8 * slotCode q)]) ∧
  (∀ r n, encode (Form.ldImm r n).instr = [byte (0b00000110 + 8 * slotCode (.reg r)), n]) ∧
  (∀ dst r, encode (Form.ldReg dst r).instr = [byte (0b01000000 + 8 * slotCode (.reg dst) + slotCode (.reg r))]) ∧
  (∀ dst, encode (Form.ldFromHl dst).instr = [byte (0b01000110 + 8 * slotCode (.reg dst))]) ∧
  (∀ r, encode (Form.ldToHl r).instr = [byte (0b01110000 + slotCode (.reg r))]) ∧
  (∀ fn q, encode (Form.alu fn q).instr = [byte (0b10000000 + 8 * fnCode fn + slotCode q)]) ∧
  (∀ fn n, encode (Form.aluImm fn n).instr = [byte (0b11000110 + 8 * fnCode fn), n]) ∧
  (∀ p, encode (Form.pop p).instr = [byte (0b11000001 + 16 * pairCode p)]) ∧
  (∀ p, encode (Form.push p).instr = [byte (0b11000101 + 16 * pairCode p)]) ∧
  (∀ t, encode (Form.rst t).instr = [byte (0b11000111 + 8 * t.toNat)]) ∧
  (∀ q, encode (Form.unary .swap q).instr = [0xCB, byte (0b00110000 + slotCode q)]) ∧
  (∀ b q, encode (Form.bitOp .test b q).instr = [0xCB, byte (0b01000000 + 8 * b.toNat + slotCode q)]) ∧
  (∀ b q, encode (Form.bitOp .reset b q).instr = [0xCB, byte (0b10000000 + 8 * b.toNat + slotCode q)]) ∧
  (∀ b q, encode (Form.bitOp .set b q).instr = [0xCB, byte (0b11000000 + 8 * b.toNat + slotCode q)])

/-- Every byte of the two pages is classified once (30_encoding.md R88, R90, R91, R93): the rows without an action of their own are the 11
invalid bytes, the 74 unimplemented bytes, the prefix and the 56 unimplemented selectors; so 171 primary bytes (the prefix among them) and
200 selectors are wired. The sets are the spec's decisions D4 to D6 (log entry 16). -/
def Obligations.OpcodePagesArePartitioned : Prop :=
  (∀ op n : Byte, (decodePrimary op n).form = none ↔
    op ∈ invalidSet ∨ op ∈ unimplementedPrimarySet ∨ op = Config.prefixByte) ∧
  (∀ sel : Byte, (decodeExtended sel).form = none ↔ unimplementedSelector sel = true) ∧
  (invalidSet ++ unimplementedPrimarySet ++ [Config.prefixByte]).Nodup ∧
  invalidSet.length = 11 ∧ unimplementedPrimarySet.length = 74 ∧
  ((List.range 256).filter (fun sel => unimplementedSelector (BitVec.ofNat 8 sel))).length = 56

/-- Words written out from the spec's encodings decode to the instructions they stand for (41_loads.md R130, R131; 42_alu_binary.md
R159, R167; 43_alu_unary.md R184, R187; 44_bit_ops.md R204, R209; 45_stack.md R224, R226; for 0xDD and 0x76 30_encoding.md R90,
R91 and 46_dispatch.md R246, R247). The byte values and the sets are the spec's decisions D3, D5 and D6 (log entry 16). -/
def Obligations.SpecWordsDecode : Prop :=
  decode [0b00000110, 0x42] = .ok (.ldBN 0x42) [] ∧
  decode [0b01000111] = .ok .ldBA [] ∧
  decode [0b10000000] = .ok .addAB [] ∧
  decode [0b11010110, 0x0F] = .ok (.subAN 0x0F) [] ∧
  decode [0b00110100] = .ok .incMemHl [] ∧
  decode [0b11000101] = .ok .pushBc [] ∧
  decode [0b11001111] = .ok .rst08 [] ∧
  decode [0b11001011, 0b01111100] = .ok .bit7H [] ∧
  decode [0b11001011, 0b11011110] = .ok .set3MemHl [] ∧
  decode [0b11001011, 0b00110111] = .ok .swapA [] ∧
  decode [0b11011101] = .ok .invalidDD [] ∧
  decode [0b01110110] = .ok .unimplHalt []

/-! ## The step -/

/-- A running step executes the instruction its bytes decode to, in the state with `pc` past those bytes (46_dispatch.md R240, R241). At the
top of memory `pc` wraps, the spec's decision D14 (log entry 17). -/
def Obligations.StepRunsDecodedInstruction : Prop :=
  ∀ (s : State) (i : Instr) (rest : List Byte), s.status = .running →
    decode [s.memRead s.pc, s.memRead (s.pc + 1)] = .ok i rest →
    step s = exec i { s with pc := s.pc + BitVec.ofNat 16 (encode i).length }

/-- A faulted CORE does not step: nothing is fetched and nothing changes (60_exceptions.md R266, the spec's decision D34, log entry 5). -/
def Obligations.FaultedStepDoesNothing : Prop :=
  ∀ (s : State) (r : FaultRecord), s.status = .faulted r → step s = .next s

/-- The step through the two opcode maps and the 512 arms of `exec` is the `Step()` of 46_dispatch.md (R241, R242, R243) at the default
parameters (log entry 22): the cascade over the fields of the fetched byte. In particular every step answers a next state. The byte values
and the sets are the spec's decisions D3 to D6 (log entry 16). -/
def Obligations.StepIsTheDispatchCascade : Prop := ∀ s : State, step s = .next (stepCascade params s)

/-- The values of 00_scope.md R8 that the spec decides, as the machine's parameters have them (decisions D4, D5, D7 to D10, D13, D14, D16,
D19; log entries 1 to 3, 16 to 20 and 22): 171 primary bytes and 200 selectors are wired, the ones with an action. -/
def Obligations.ParametersHaveTheirDefaults : Prop :=
  params.imageBase = 0x0000 ∧ params.fWriteMask = 0xFF ∧ params.carryInFlags = false ∧
  (params.zBit = 7 ∧ params.nBit = 6 ∧ params.hBit = 5 ∧ params.cBit = 4 ∧ params.FlagBitsDistinct) ∧
  params.rstPush = .bits16 ∧ params.incDecH = .nibbleWrap ∧ params.wrap = .modulo65536 ∧
  params.invalidSet = [0xD3, 0xDB, 0xDD, 0xE3, 0xE4, 0xEB, 0xEC, 0xED, 0xF4, 0xFC, 0xFD] ∧
  (params.wiredPrimary.length = 171 ∧ params.wiredPrimary.Nodup ∧
    ∀ op n : Byte, op ∈ params.wiredPrimary ↔ op = Config.prefixByte ∨ (decodePrimary op n).form ≠ none) ∧
  (params.wiredExtended.length = 200 ∧ params.wiredExtended.Nodup ∧
    ∀ sel : Byte, sel ∈ params.wiredExtended ↔ (decodeExtended sel).form ≠ none) ∧
  faultCode .invalidOpcode = 1 ∧ faultCode .notImplemented = 2 ∧ faultCode .invalidOperandMask = 3

/-- The three parameters the spec leaves open to a model (93_implementation_defined.md U8, U9, U13: CARRY_IN_FLAGS, F_WRITE_MASK,
IMAGE_BASE), at every value: a step's next state differs from the machine's in F at most; it differs only after ADC, SBC and POP AF, and
after ADC and SBC only where C was set; and there it is what `ExecuteBinary` and `Pop` answer at that value. The defaults are the spec's
decisions D10, D13 and D19 (log entries 1 to 3 and 22). -/
def Obligations.OnlyAdcSbcPopAfReadParameters : Prop :=
  ∀ (carryIn : Bool) (mask : Byte) (base : Word) (s t : State), s.status = .running → step s = .next t →
    let cfg : Params := { params with carryInFlags := carryIn, fWriteMask := mask, imageBase := base }
    AgreeOffF (stepCascade cfg s) t ∧
    (∀ form, (fetchInstr s).1.form = some form →
      ((∀ q, form ≠ .alu .adc q) ∧ (∀ n, form ≠ .aluImm .adc n) ∧ (∀ q, form ≠ .alu .sbc q) ∧ (∀ n, form ≠ .aluImm .sbc n) ∨
        s.flagC = false) →
      form ≠ .pop .af → stepCascade cfg s = t) ∧
    ((fetchInstr s).1.form = none → stepCascade cfg s = t) ∧
    (∀ fn q, (fetchInstr s).1.form = some (.alu fn q) →
      stepCascade cfg s = executeBinary cfg fn (readOperand (slotOperand q) (fetchInstr s).2) (fetchInstr s).2) ∧
    (∀ fn n, (fetchInstr s).1.form = some (.aluImm fn n) → stepCascade cfg s = executeBinary cfg fn n (fetchInstr s).2) ∧
    (∀ p, (fetchInstr s).1.form = some (.pop p) → stepCascade cfg s = pop cfg p (fetchInstr s).2)

/-- PREFIX CB with a selector has the meaning of the row the selector selects, in the same step (46_dispatch.md R245); both answer a next
state. That the prefix is a constructor of its own is the model's choice (log entry 7); `pc` wraps by the spec's decision D14 (log entry
17). -/
def Obligations.PrefixMeansSelectedRow : Prop :=
  (∀ (sel : Byte) (s : State), ∃ t, exec (.prefixCb sel) s = .next t ∧ exec (decodeExtended sel) s = .next t) ∧
  (∀ s : State, s.status = .running → s.memRead s.pc = 0xCB →
    step s = exec (.prefixCb (s.memRead (s.pc + 1))) { s with pc := s.pc + 2 })

/-- A running step never does nothing (46_dispatch.md R241): `pc` has moved, modulo 65536 by the spec's decision D14 (log entry 17), or by
D17 stays past the faulting byte (log entry 20). -/
def Obligations.RunningStepChangesTheState : Prop :=
  ∀ s t : State, s.status = .running → step s = .next t → t ≠ s

/-- After a running step `pc` has advanced by the length of the instruction, modulo 65536, unless that was RST, which leaves it at the
vector `8 * t` (10_state.md R27, the wrap being the spec's decision D14, log entry 17; 45_stack.md R226, the vectors being D33, log entry
16). That it is not rolled back at a fault is D17 (log entry 20). -/
def Obligations.StepMovesPc : Prop :=
  ∀ s t : State, s.status = .running → step s = .next t →
    (∀ y, (fetchInstr s).1.form = some (.rst y) → t.pc = BitVec.ofNat 16 (8 * y.toNat)) ∧
    ((∀ y, (fetchInstr s).1.form ≠ some (.rst y)) →
      t.pc = s.pc + BitVec.ofNat 16 (encode (fetchInstr s).1).length ∧
      ((encode (fetchInstr s).1).length = 1 ∨ (encode (fetchInstr s).1).length = 2))

/-- A store to the next instruction's first byte is what the next fetch decodes, with no fence between (20_memory.md R64). At the top of
memory `pc` wraps, the spec's decision D14 (log entry 17). -/
def Obligations.StoreIsSeenByNextFetch : Prop :=
  ∀ (s : State) (r : GReg), s.mem.wf → s.status = .running → (fetchInstr s).1 = (Form.ldToHl r).instr →
    s.pair .hl = s.pc + 1 →
    ∃ t, step s = .next t ∧ (fetchInstr t).1 = decodeBytes (s.reg r.toReg) (t.memRead (s.pc + 2))

/-! ## Faults -/

/-- An unimplemented byte or selector takes the fault NotImplemented: the record holds the byte, its address (one before `pc`) and its page,
and nothing but `status` is written (46_dispatch.md R246; the sets are the spec's decision D6, log entry 16, the record its decisions D16
and D17, log entry 20). -/
def Obligations.UnimplementedRowsFault : Prop :=
  (∀ (op n : Byte) (s : State), op ∈ unimplementedPrimarySet →
    exec (decodeBytes op n) s = .next { s with status := .faulted ⟨.notImplemented, op, s.pc - 1, false⟩ }) ∧
  (∀ (sel : Byte) (s : State), unimplementedSelector sel = true →
    exec (decodeBytes 0xCB sel) s = .next { s with status := .faulted ⟨.notImplemented, sel, s.pc - 1, true⟩ })

/-- An invalid byte takes the fault InvalidOpcode, and nothing but `status` is written (46_dispatch.md R247; the set is the spec's decision
D5, log entry 16, the record its decisions D16 and D17, log entry 20). -/
def Obligations.InvalidRowsFault : Prop :=
  ∀ (op n : Byte) (s : State),
    op ∈ ([0xD3, 0xDB, 0xDD, 0xE3, 0xE4, 0xEB, 0xEC, 0xED, 0xF4, 0xFC, 0xFD] : List Byte) →
    exec (decodeBytes op n) s = .next { s with status := .faulted ⟨.invalidOpcode, op, s.pc - 1, false⟩ }

/-- A running step raises InvalidOpcode when, and only when, the byte at `pc` is invalid, and the record is that byte and that address
(60_exceptions.md R261; the spec's decisions D5, log entry 16, and D16, log entry 20). -/
def Obligations.InvalidOpcodeRaisedExactly : Prop :=
  ∀ (s t : State) (op : Byte) (addr : Word) (ext : Bool), s.status = .running → step s = .next t →
    (t.status = .faulted ⟨.invalidOpcode, op, addr, ext⟩ ↔
      op = s.memRead s.pc ∧ op ∈ invalidSet ∧ addr = s.pc ∧ ext = false)

/-- A running step raises NotImplemented when, and only when, the byte at `pc` is an unimplemented primary byte, or it is 0xCB and the byte
after it an unimplemented selector; the record is that byte and its address (60_exceptions.md R262; the spec's decisions D6, log entry 16,
and D16, log entry 20). -/
def Obligations.NotImplementedRaisedExactly : Prop :=
  ∀ (s t : State) (op : Byte) (addr : Word) (ext : Bool), s.status = .running → step s = .next t →
    (t.status = .faulted ⟨.notImplemented, op, addr, ext⟩ ↔
      (op = s.memRead s.pc ∧ op ∈ unimplementedPrimarySet ∧ addr = s.pc ∧ ext = false) ∨
      (s.memRead s.pc = 0xCB ∧ op = s.memRead (s.pc + 1) ∧ unimplementedSelector op = true ∧
        addr = s.pc + 1 ∧ ext = true))

/-- No running step raises InvalidOperandMask, whatever the bytes of memory (40_operand_resolution.md R119, 60_exceptions.md R264; the
spec's decision D30, log entries 10 and 15). -/
def Obligations.OperandMaskFaultUnreachable : Prop :=
  ∀ (s t : State) (r : FaultRecord), s.status = .running → step s = .next t → t.status = .faulted r →
    r.kind ≠ .invalidOperandMask

/-- A step that faults has changed nothing but `pc`, by 1 or for an extended selector by 2, and `status` (60_exceptions.md R265; where `pc`
stands is the spec's decision D17, log entry 20, and its wrap D14, log entry 17). -/
def Obligations.FaultsArePrecise : Prop :=
  ∀ (s t : State) (r : FaultRecord), s.status = .running → step s = .next t → t.status = .faulted r →
    t = { s with pc := s.pc + (if r.ext then 2 else 1), status := .faulted r }

/-- A step completes a test program's run exactly when it fetches the terminator 0xDD at the terminator's address (70_reset_and_hazards.md
R299, the spec's decision D29, log entry 24; 0xDD is invalid by D5, log entry 16, and the record is D16, log entry 20). -/
def Obligations.RunCompletesAtTerminator : Prop :=
  ∀ (s t : State) (terminator : Word), s.status = .running → step s = .next t →
    (RunComplete terminator t ↔ s.pc = terminator ∧ s.memRead s.pc = 0xDD)

/-! ## Every wired row completes, and its frame -/

/-- Every one of the 512 constructors of `Instr` answers a next state from every state. Where the instruction has a form, `status` is as it
was; a well-formed instruction without one takes its fault, whose record is the last byte of its own encoding, the address before `pc`, and
the page; `prefixCb` answers what the selected row answers (46_dispatch.md R242 to R247, the record being the spec's decisions D16 and D17,
log entry 20, and the sets D5 and D6, log entry 16). -/
def Obligations.EveryInstructionCompletes : Prop :=
  ∀ (i : Instr) (s : State), ∃ t, exec i s = .next t ∧
    (∀ form, i.form = some form → form.instr = i ∧ t.status = s.status) ∧
    (i.form = none → i.wellFormed = true → ∃ op, (encode i).getLast? = some op ∧
      let record : FaultRecord :=
        ⟨if op ∈ invalidSet then .invalidOpcode else .notImplemented, op, s.pc - 1, decide ((encode i).length = 2)⟩
      t = { s with status := .faulted record }) ∧
    (∀ sel, i = .prefixCb sel → exec (decodeExtended sel) s = .next t)

/-- Every wired instruction answers a next state from every state, and changes nothing but: the registers its form names, the flags
10_state.md R33 gives it, `sp` for PUSH, POP and RST by exactly 2, `pc` for RST, and the bytes at the addresses its form stores to. `status`
never changes. Which flags a form writes, C kept by INC and DEC among them, and where they stand in F, is the spec's decisions D7, D9, D11
and D12 (log entry 18); that RST moves `sp` by 2 is D8 (log entry 19), that `sp` wraps D14 (log entry 17), that POP AF writes all of F D13
(log entry 2), and that BIT stores nothing D27 (log entry 23). -/
def Obligations.WiredFormsCompleteWithinFrame : Prop :=
  ∀ (form : Form) (s : State), ∃ t, exec form.instr s = .next t ∧
    (∀ r, r ∉ writtenRegs form → r ≠ .f → t.reg r = s.reg r) ∧
    (t.f &&& ~~~(writtenFlags form) = s.f &&& ~~~(writtenFlags form)) ∧
    t.sp = spAfter form s.sp ∧
    ((∀ y, form ≠ .rst y) → t.pc = s.pc) ∧
    t.status = s.status ∧
    SameMemBut (storedAddrs form s) s t

/-- What reads a flag (10_state.md R34): for every wired instruction but ADC, SBC and PUSH AF, two states that differ only in F give states
that differ only in F and agree on every flag bit the instruction writes; ADC and SBC read C, as the carry-in, and no other
flag; the carry detector reads only N, as the policy has written it, to choose addition or subtraction; PUSH AF stores the whole
byte; and no instruction branches on a flag, since `pc` and `status` after it do not depend on F. That H and C after ADC and SBC are
those of the two operands without the carry-in rests on CARRY_IN_FLAGS = false (42_alu_binary.md R156), the spec's decision D10 (log
entry 1); which flags a form writes, and where they stand in F, on D7, D9, D11 and D12 (log entry 18). -/
def Obligations.OnlyAdcSbcPushAfReadFlags : Prop :=
  (∀ (form : Form) (s s' t t' : State), AgreeOffF s s' →
    (∀ q, form ≠ .alu .adc q) → (∀ n, form ≠ .aluImm .adc n) →
    (∀ q, form ≠ .alu .sbc q) → (∀ n, form ≠ .aluImm .sbc n) → form ≠ .push .af →
    exec form.instr s = .next t → exec form.instr s' = .next t' →
    AgreeOffF t t' ∧ t.f &&& writtenFlags form = t'.f &&& writtenFlags form) ∧
  (∀ (form : Form) (s s' t t' : State), AgreeOffF s s' → s.flagC = s'.flagC → form ≠ .push .af →
    exec form.instr s = .next t → exec form.instr s' = .next t' →
    AgreeOffF t t' ∧ t.f &&& writtenFlags form = t'.f &&& writtenFlags form) ∧
  (∀ (q : Slot) (s : State), ∃ t u, exec (Form.alu .adc q).instr s = .next t ∧ exec (Form.alu .sbc q).instr s = .next u ∧
    t.a = s.a + readOperand (slotOperand q) s + (if s.flagC then 1 else 0) ∧
    u.a = s.a - readOperand (slotOperand q) s - (if s.flagC then 1 else 0)) ∧
  (∀ (n : Byte) (s : State), ∃ t u, exec (Form.aluImm .adc n).instr s = .next t ∧ exec (Form.aluImm .sbc n).instr s = .next u ∧
    t.a = s.a + n + (if s.flagC then 1 else 0) ∧ u.a = s.a - n - (if s.flagC then 1 else 0)) ∧
  (∀ (fn : AluFn) (b : Byte) (s : State), hasCarryHandler fn = true →
    let t := executeBinary params fn b s
    t.flagN = decide (fn = .sub ∨ fn = .sbc) ∧ t.flagH = (carryVector t.flagN s.a b 0).getLsbD 4 ∧
    t.flagC = (carryVector t.flagN s.a b 0).getLsbD 8) ∧
  (∀ (cfg : Params) (lhs rhs : Byte) (cin : Bool) (s s' : State), s.flagN cfg = s'.flagN cfg →
    (detectCarries cfg lhs rhs cin s).flagH cfg = (detectCarries cfg lhs rhs cin s').flagH cfg ∧
    (detectCarries cfg lhs rhs cin s).flagC cfg = (detectCarries cfg lhs rhs cin s').flagC cfg) ∧
  (∀ (form : Form) (s s' t t' : State), AgreeOffF s s' → exec form.instr s = .next t → exec form.instr s' = .next t' →
    t.pc = t'.pc ∧ t.status = t'.status) ∧
  (∀ s : State, s.mem.wf → ∃ t, exec .pushAf s = .next t ∧ t.memRead (s.sp - 1) = s.f)

/-- No instruction's behaviour depends on the low nibble of F, save PUSH AF, which stores it: from two states that differ only there, every
other instruction gives two states that differ at most there (10_state.md R24, the spec's decision D13, log entry 2). That the flags are the
other nibble's bits is D7 (log entry 18). -/
def Obligations.LowNibbleOfFIsInert : Prop :=
  ∀ (form : Form) (s s' t t' : State), AgreeOffLowNibble s s' → form ≠ .push .af →
    exec form.instr s = .next t → exec form.instr s' = .next t' → AgreeOffLowNibble t t'

/-- The bus transactions computed for a running step are all it reads and writes of memory: they are 1 to 4, each fetch and read carries the
byte memory holds at that point, the writes in order give the memory after the step, and where another memory agrees on the addresses they
fetch and read, the step makes the same transactions and gives the same registers, `pc`, `sp` and `status`. Fetches come first, then reads,
then writes; a push stores the high byte first, and POP loads the low byte first (20_memory.md R57, R58, R61; the order is the spec's
decision D26, log entry 14). That RST makes two writes is D8 (log entry 19), and that the addresses wrap D14 (log entry 17). -/
def Obligations.BusTraceExplainsStep : Prop :=
  ∀ s t : State, s.status = .running → step s = .next t →
    t.mem = applyWrites (stepTrace s) s.mem ∧ readsAgree (stepTrace s) s.mem ∧
    1 ≤ (stepTrace s).length ∧ (stepTrace s).length ≤ 4 ∧
    (∀ m : Memory, (∀ addr ∈ readAddrs (stepTrace s), m.read addr = s.memRead addr) →
      stepTrace { s with mem := m } = stepTrace s ∧
      ∃ u, step { s with mem := m } = .next u ∧ { u with mem := t.mem } = t) ∧
    (stepTrace s).Pairwise (fun x y => x.phase ≤ y.phase) ∧
    (∀ form, (fetchInstr s).1.form = some form →
      (∀ p, form = .push p →
        stepTrace s = [.fetch s.pc (s.memRead s.pc), .write s.sp (s.reg p.hi), .write (s.sp - 1) (s.reg p.lo)]) ∧
      (∀ y, form = .rst y →
        stepTrace s = [.fetch s.pc (s.memRead s.pc), .write s.sp (hiByte (s.pc + 1)), .write (s.sp - 1) (loByte (s.pc + 1))]) ∧
      (∀ p, form = .pop p → stepTrace s =
        [.fetch s.pc (s.memRead s.pc), .read (s.sp + 1) (s.memRead (s.sp + 1)), .read (s.sp + 2) (s.memRead (s.sp + 2))]))

/-! ## Loads -/

/-- LD r,n puts the byte in the register and changes nothing else; in mask form it is `LoadImmediate`, which fetches the byte and rejects a
pair and F (40_operand_resolution.md R114). That `pc` wraps there is the spec's decision D14 (log entry 17). -/
def Obligations.LoadImmediateLoadsOneRegister : Prop :=
  (∀ (r : GReg) (n : Byte) (s : State), ∃ t, exec (Form.ldImm r n).instr s = .next t ∧ t.reg r.toReg = n ∧
    SameRegsBut [r.toReg] s t ∧ SameMemBut [] s t ∧ SameControl s t) ∧
  (∀ (r : GReg) (s : State), ∃ t, loadImmediateMask params (regMask r.toReg) s = some t ∧ t.reg r.toReg = s.memRead s.pc ∧
    SameRegsBut [r.toReg] s t ∧ SameMemBut [] s t ∧ t.pc = s.pc + 1 ∧ t.sp = s.sp ∧ t.status = s.status) ∧
  (∀ s : State, loadImmediateMask params (regMask .f) s = none) ∧
  (∀ p : Pair, populationCount (pairMask p) ≠ 1) ∧
  (∀ (m : RegMask) (s : State), populationCount m ≠ 1 → loadImmediateMask params m s = none)

/-- The three defined cases of Move (40_operand_resolution.md R115), as the instructions LD r,r', LD r,(HL) and LD (HL),r and over masks
for every register and pair: the byte is copied, the address is composed before the destination is written, and no flag
changes. -/
def Obligations.MoveCopiesOneByte : Prop :=
  (∀ (dst r : GReg) (s : State), ∃ t, exec (Form.ldReg dst r).instr s = .next t ∧ t.reg dst.toReg = s.reg r.toReg ∧
    SameRegsBut [dst.toReg] s t ∧ SameMemBut [] s t ∧ SameControl s t) ∧
  (∀ (dst : GReg) (s : State), ∃ t, exec (Form.ldFromHl dst).instr s = .next t ∧
    t.reg dst.toReg = s.memRead (joinBytes s.h s.l) ∧
    SameRegsBut [dst.toReg] s t ∧ SameMemBut [] s t ∧ SameControl s t) ∧
  (∀ (r : GReg) (s : State), s.mem.wf → ∃ t, exec (Form.ldToHl r).instr s = .next t ∧
    t.memRead (joinBytes s.h s.l) = s.reg r.toReg ∧
    SameRegsBut [] s t ∧ SameMemBut [joinBytes s.h s.l] s t ∧ SameControl s t) ∧
  (∀ (dst r : Reg) (s : State), moveMask (regMask dst) (regMask r) s = some (s.setReg dst (s.reg r))) ∧
  (∀ (dst : Reg) (p : Pair) (s : State),
    moveMask (regMask dst) (pairMask p) s = some (s.setReg dst (s.memRead (s.pair p)))) ∧
  (∀ (p : Pair) (r : Reg) (s : State), moveMask (pairMask p) (regMask r) s = some (s.memWrite (s.pair p) (s.reg r)))

/-- LD A,(BC), LD A,(DE), LD (BC),A and LD (DE),A move one byte between A and the memory byte the pair addresses (41_loads.md R134 to R137;
that the four are wired is the spec's decision D31, log entry 21). -/
def Obligations.AccumulatorMovesThroughBcDe : Prop :=
  (∀ (p : IndPair) (s : State), ∃ t, exec (Form.ldAFrom p).instr s = .next t ∧ t.a = s.memRead (s.pair p.toPair) ∧
    SameRegsBut [.a] s t ∧ SameMemBut [] s t ∧ SameControl s t) ∧
  (∀ (p : IndPair) (s : State), s.mem.wf → ∃ t, exec (Form.ldATo p).instr s = .next t ∧
    t.memRead (s.pair p.toPair) = s.a ∧
    SameRegsBut [] s t ∧ SameMemBut [s.pair p.toPair] s t ∧ SameControl s t)

/-! ## Binary ALU -/

/-- For every binary function and operand form, Z after the instruction says whether the byte now in A is zero
(42_alu_binary.md R153). -/
def Obligations.ZeroFlagIffResultZero : Prop :=
  (∀ (fn : AluFn) (q : Slot) (s : State), ∃ t, exec (Form.alu fn q).instr s = .next t ∧ (t.flagZ = true ↔ t.a = 0)) ∧
  (∀ (fn : AluFn) (n : Byte) (s : State), ∃ t, exec (Form.aluImm fn n).instr s = .next t ∧ (t.flagZ = true ↔ t.a = 0))

/-- The closed forms of H and C (42_alu_binary.md R158), under both settings of CARRY_IN_FLAGS, for the detector and for ADD, ADC, SUB and
SBC: the half-carry and the carry of the sum or difference of the operands, with the carry-in counted where the setting is true and the
function is ADC or SBC. It holds of every setting of the other parameters in which the flags are four bits of F. The default setting is the
spec's decision D10 (log entry 1). -/
def Obligations.CarryDetectorClosedForm : Prop :=
  (∀ (cfg : Params) (lhs rhs : Byte) (cin : Bool) (s : State), cfg.FlagBitsDistinct →
    let k : Nat := if cfg.carryInFlags = true ∧ cin = true then 1 else 0
    let t := detectCarries cfg lhs rhs cin s
    (s.flagN cfg = false →
      (t.flagH cfg = true ↔ lhs.toNat % 16 + (rhs.toNat % 16 + k) > 0xF) ∧
      (t.flagC cfg = true ↔ lhs.toNat + (rhs.toNat + k) > 0xFF)) ∧
    (s.flagN cfg = true →
      (t.flagH cfg = true ↔ lhs.toNat % 16 < rhs.toNat % 16 + k) ∧ (t.flagC cfg = true ↔ lhs.toNat < rhs.toNat + k)) ∧
    t.flagZ cfg = s.flagZ cfg ∧ t.flagN cfg = s.flagN cfg ∧ { t with f := s.f } = s) ∧
  (∀ (cfg : Params) (fn : AluFn) (b : Byte) (s : State), cfg.FlagBitsDistinct →
    let k : Nat := if cfg.carryInFlags = true ∧ (fn = .adc ∨ fn = .sbc) ∧ s.flagC cfg = true then 1 else 0
    let t := executeBinary cfg fn b s
    (fn = .add ∨ fn = .adc →
      (t.flagH cfg = true ↔ s.a.toNat % 16 + (b.toNat % 16 + k) > 0xF) ∧
      (t.flagC cfg = true ↔ s.a.toNat + (b.toNat + k) > 0xFF)) ∧
    (fn = .sub ∨ fn = .sbc →
      (t.flagH cfg = true ↔ s.a.toNat % 16 < b.toNat % 16 + k) ∧ (t.flagC cfg = true ↔ s.a.toNat < b.toNat + k)))

/-- ADD and SUB in every operand form: the whole next state, with the flags in closed form. C and H of SUB are borrows. A is the left
operand and may be the right one too. R159 to R161 and R165 to R167 of 42_alu_binary.md; the flags' places in F are the spec's decision D7
(log entry 18), and its low nibble is kept by D13 (log entry 2). -/
def Obligations.AddSubResult : Prop :=
  let afterAdd : Byte → State → State := fun b s =>
    { s with
      a := s.a + b
      f := flagByte (s.a + b == 0) false (decide (s.a.toNat % 16 + b.toNat % 16 > 0xF)) (decide (s.a.toNat + b.toNat > 0xFF)) s.f }
  let afterSub : Byte → State → State := fun b s =>
    { s with
      a := s.a - b
      f := flagByte (s.a - b == 0) true (decide (s.a.toNat % 16 < b.toNat % 16)) (decide (s.a.toNat < b.toNat)) s.f }
  (∀ (r : GReg) (s : State), exec (Form.alu .add (.reg r)).instr s = .next (afterAdd (s.reg r.toReg) s)) ∧
  (∀ s : State, exec (Form.alu .add .memHl).instr s = .next (afterAdd (s.memRead (joinBytes s.h s.l)) s)) ∧
  (∀ (n : Byte) (s : State), exec (Form.aluImm .add n).instr s = .next (afterAdd n s)) ∧
  (∀ (r : GReg) (s : State), exec (Form.alu .sub (.reg r)).instr s = .next (afterSub (s.reg r.toReg) s)) ∧
  (∀ s : State, exec (Form.alu .sub .memHl).instr s = .next (afterSub (s.memRead (joinBytes s.h s.l)) s)) ∧
  (∀ (n : Byte) (s : State), exec (Form.aluImm .sub n).instr s = .next (afterSub n s))

/-- ADC and SBC in every operand form: the result and Z count the carry-in, H and C do not (42_alu_binary.md R162 to R164, R168 to R170
under CARRY_IN_FLAGS = false, the spec's decision D10, log entry 1). The flags' places in F are D7 (log entry 18), and its low nibble is
kept by D13 (log entry 2). -/
def Obligations.AdcSbcResult : Prop :=
  let k : State → Byte := fun s => if s.flagC then 1 else 0
  let afterAdc : Byte → State → State := fun b s =>
    { s with
      a := s.a + b + k s
      f := flagByte (s.a + b + k s == 0) false (decide (s.a.toNat % 16 + b.toNat % 16 > 0xF))
        (decide (s.a.toNat + b.toNat > 0xFF)) s.f }
  let afterSbc : Byte → State → State := fun b s =>
    { s with
      a := s.a - b - k s
      f := flagByte (s.a - b - k s == 0) true (decide (s.a.toNat % 16 < b.toNat % 16)) (decide (s.a.toNat < b.toNat)) s.f }
  (∀ (r : GReg) (s : State), exec (Form.alu .adc (.reg r)).instr s = .next (afterAdc (s.reg r.toReg) s)) ∧
  (∀ s : State, exec (Form.alu .adc .memHl).instr s = .next (afterAdc (s.memRead (joinBytes s.h s.l)) s)) ∧
  (∀ (n : Byte) (s : State), exec (Form.aluImm .adc n).instr s = .next (afterAdc n s)) ∧
  (∀ (r : GReg) (s : State), exec (Form.alu .sbc (.reg r)).instr s = .next (afterSbc (s.reg r.toReg) s)) ∧
  (∀ s : State, exec (Form.alu .sbc .memHl).instr s = .next (afterSbc (s.memRead (joinBytes s.h s.l)) s)) ∧
  (∀ (n : Byte) (s : State), exec (Form.aluImm .sbc n).instr s = .next (afterSbc n s))

/-- AND, XOR and OR in every operand form: the whole next state. AND sets H, XOR and OR clear it, all clear N and C (42_alu_binary.md R171
to R179; H is the spec's decision D11 and the flags' places in F are D7, log entry 18; the low nibble is kept by D13, log entry 2). -/
def Obligations.BitwiseResult : Prop :=
  let after : Byte → Bool → State → State := fun res h s => { s with a := res, f := flagByte (res == 0) false h false s.f }
  (∀ (q : Slot) (s : State),
    exec (Form.alu .and q).instr s = .next (after (s.a &&& readOperand (slotOperand q) s) true s) ∧
    exec (Form.alu .xor q).instr s = .next (after (s.a ^^^ readOperand (slotOperand q) s) false s) ∧
    exec (Form.alu .or q).instr s = .next (after (s.a ||| readOperand (slotOperand q) s) false s)) ∧
  (∀ (n : Byte) (s : State),
    exec (Form.aluImm .and n).instr s = .next (after (s.a &&& n) true s) ∧
    exec (Form.aluImm .xor n).instr s = .next (after (s.a ^^^ n) false s) ∧
    exec (Form.aluImm .or n).instr s = .next (after (s.a ||| n) false s))

/-! ## Unary ALU -/

/-- INC, DEC and SWAP of a register: the register and F, and nothing else (43_alu_unary.md R183, R185, R187). C survives INC and DEC, and H
says whether the low nibble wrapped; the flags are the spec's decisions D9 and D12 and their places in F are D7 (log entry 18); the low
nibble is kept by D13 (log entry 2). -/
def Obligations.UnaryRegisterResult : Prop :=
  ∀ (r : GReg) (s : State),
    let v := s.reg r.toReg
    let after : Byte → Bool → Bool → Bool → State := fun res n h c =>
      { s.setReg r.toReg res with f := flagByte (res == 0) n h c s.f }
    exec (Form.unary .inc (.reg r)).instr s = .next (after (v + 1) false (v.toNat % 16 == 15) s.flagC) ∧
    exec (Form.unary .dec (.reg r)).instr s = .next (after (v - 1) true (v.toNat % 16 == 0) s.flagC) ∧
    exec (Form.unary .swap (.reg r)).instr s = .next (after (v.rotateLeft 4) false false false)

/-- INC, DEC and SWAP of the memory byte at HL: that byte, written back where it was read, and F (43_alu_unary.md R184, R186, R188; the
flags are the spec's decisions D9 and D12 and their places in F are D7, log entry 18; the low nibble is kept by D13, log entry 2). -/
def Obligations.UnaryMemoryResult : Prop :=
  ∀ s : State, s.mem.wf →
    let hl := joinBytes s.h s.l
    let v := s.memRead hl
    let Is : State → Byte → Byte → Prop := fun t res f =>
      t.memRead hl = res ∧ t.f = f ∧ SameRegsBut [.f] s t ∧ SameMemBut [hl] s t ∧ SameControl s t
    (∃ t, exec (Form.unary .inc .memHl).instr s = .next t ∧
      Is t (v + 1) (flagByte (v + 1 == 0) false (v.toNat % 16 == 15) s.flagC s.f)) ∧
    (∃ t, exec (Form.unary .dec .memHl).instr s = .next t ∧
      Is t (v - 1) (flagByte (v - 1 == 0) true (v.toNat % 16 == 0) s.flagC s.f)) ∧
    (∃ t, exec (Form.unary .swap .memHl).instr s = .next t ∧
      Is t (v.rotateLeft 4) (flagByte (v == 0) false false false s.f))

/-! ## Bit engine -/

/-- BIT b,s: Z is the complement of the tested bit, N is cleared, H set, C unchanged, and nothing else changes (44_bit_ops.md R200; that it
writes nothing back is the spec's decision D27, log entry 23, the flags' places in F are D7, log entry 18, and the low nibble is kept by
D13, log entry 2). -/
def Obligations.BitTestSetsOnlyFlags : Prop :=
  ∀ (b : Oct) (q : Slot) (s : State),
    exec (Form.bitOp .test b q).instr s =
      .next { s with f := flagByte (!(readOperand (slotOperand q) s).getLsbD b.toNat) false true s.flagC s.f }

/-- SET b,s and RES b,s change bit `b` of the operand, no other bit of it, no flag and nothing else (44_bit_ops.md R201, R202; that they
always write back is the spec's decision D27, log entry 23). -/
def Obligations.SetResChangeOneBit : Prop :=
  ∀ (b : Oct) (q : Slot) (x : Bool) (s : State), s.mem.wf →
    let fn : BitFn := if x then .set else .reset
    ∃ t, exec (Form.bitOp fn b q).instr s = .next t ∧
      (match q with
        | .reg r =>
          (∀ i < 8, (t.reg r.toReg).getLsbD i = if i = b.toNat then x else (s.reg r.toReg).getLsbD i) ∧
          SameRegsBut [r.toReg] s t ∧ SameMemBut [] s t
        | .memHl =>
          (∀ i < 8, (t.memRead (joinBytes s.h s.l)).getLsbD i =
            if i = b.toNat then x else (s.memRead (joinBytes s.h s.l)).getLsbD i) ∧
          SameRegsBut [] s t ∧ SameMemBut [joinBytes s.h s.l] s t) ∧
      SameControl s t

/-! ## Stack -/

/-- Push16 and PUSH rr: the high byte at the old `sp`, the low byte one below, `sp` two lower, nothing else changed (45_stack.md R220, R221;
the wrap is the spec's decision D14, log entry 17). -/
def Obligations.PushStoresHighThenLow : Prop :=
  ∀ (p : Pair) (s : State), s.mem.wf → ∃ t, exec (Form.push p).instr s = .next t ∧ t = push16 (s.pair p) s ∧
    t.memRead s.sp = s.reg p.hi ∧ t.memRead (s.sp - 1) = s.reg p.lo ∧ t.sp = s.sp - 2 ∧
    SameRegsBut [] s t ∧ SameMemBut [s.sp, s.sp - 1] s t ∧ t.pc = s.pc ∧ t.status = s.status

/-- POP rr: the low byte from `sp + 1`, the high byte from `sp + 2`, `sp` two higher, memory unchanged; for AF the low byte is masked with
F_WRITE_MASK, under every setting of it (45_stack.md R222, R225; the parameter is the spec's decision D13, log entry 2, the wrap is D14, log
entry 17, and the flags' places in F are D7, log entry 18). -/
def Obligations.PopLoadsLowThenHigh : Prop :=
  (∀ (cfg : Params) (p : Pair) (s : State),
    (pop cfg p s).reg p.hi = s.memRead (s.sp + 2) ∧
    (pop cfg p s).reg p.lo = (if p = .af then s.memRead (s.sp + 1) &&& cfg.fWriteMask else s.memRead (s.sp + 1)) ∧
    (pop cfg p s).sp = s.sp + 2 ∧ SameRegsBut [p.hi, p.lo] s (pop cfg p s) ∧ (pop cfg p s).mem = s.mem ∧
    (pop cfg p s).pc = s.pc ∧ (pop cfg p s).status = s.status) ∧
  (∀ (p : Pair) (s : State), exec (Form.pop p).instr s = .next (pop params p s)) ∧
  (∀ s t : State, exec .popAf s = .next t →
    t.flagZ = (s.memRead (s.sp + 1)).getLsbD 7 ∧ t.flagN = (s.memRead (s.sp + 1)).getLsbD 6 ∧
    t.flagH = (s.memRead (s.sp + 1)).getLsbD 5 ∧ t.flagC = (s.memRead (s.sp + 1)).getLsbD 4)

/-- What PUSH of a pair stored, POP of any pair gives back, with `sp` where it was, whatever registers changed in between; in particular
PUSH then POP of one pair restores it (45_stack.md R227 (a) and (b)). For POP AF this rests on F_WRITE_MASK = 0xFF (the spec's decision
D13, log entry 2), and at the ends of memory on the wrap of `sp` (D14, log entry 17). -/
def Obligations.PopGivesBackWhatPushStored : Prop :=
  ∀ (p q : Pair) (s t t' : State), s.mem.wf → exec (Form.push p).instr s = .next t → t'.mem = t.mem → t'.sp = t.sp →
    ∃ u, exec (Form.pop q).instr t' = .next u ∧ u.pair q = s.pair p ∧ u.sp = s.sp

/-- RST t pushes the 16-bit `pc`, which is past the opcode, goes to `8 * t`, and changes nothing else; popping a pair afterwards
reconstructs the pushed address (45_stack.md R223, R226). The width is the spec's decision D8 (log entry 19), the vectors are D33 (log
entry 16), the wrap is D14 (log entry 17), and for POP AF the last clause rests on F_WRITE_MASK = 0xFF (D13, log entry 2). -/
def Obligations.RstPushesPcAndJumps : Prop :=
  ∀ (y : Oct) (s : State), s.mem.wf → ∃ t, exec (Form.rst y).instr s = .next t ∧
    t.pc = BitVec.ofNat 16 (8 * y.toNat) ∧ t.sp = s.sp - 2 ∧
    t.memRead s.sp = hiByte s.pc ∧ t.memRead (s.sp - 1) = loByte s.pc ∧
    SameRegsBut [] s t ∧ SameMemBut [s.sp, s.sp - 1] s t ∧ t.status = s.status ∧
    (∀ p, ∃ u, exec (Form.pop p).instr t = .next u ∧ u.pair p = s.pc)

/-- NOP changes nothing; in a running CORE its step advances `pc` by 1 and changes nothing else (46_dispatch.md R244; the byte value is the
spec's decision D3, log entry 16, and the wrap is D14, log entry 17). -/
def Obligations.NopOnlyAdvancesPc : Prop :=
  (∀ s : State, exec .nop s = .next s) ∧
  (∀ s : State, s.status = .running → s.memRead s.pc = 0x00 → step s = .next { s with pc := s.pc + 1 })

/-! ## Registers, memory, masks -/

/-- A pair is a view of its two registers (10_state.md R21): AF, BC, DE, HL are the concatenations, high register first; writing either
register changes its half at once; writing the pair writes both registers; ComposeAddress gives the same value; and no other two registers
are a pair. That ComposeAddress of a two-bit mask that is no pair is not defined is the spec's decision D30 (40_operand_resolution.md R113,
R119; log entry 10), since such a mask passes the source's population count test; the masks' bits are D15 (log entry 10). -/
def Obligations.PairsAreViews : Prop :=
  (Pair.af.hi = .a ∧ Pair.af.lo = .f ∧ Pair.bc.hi = .b ∧ Pair.bc.lo = .c ∧ Pair.de.hi = .d ∧ Pair.de.lo = .e ∧
    Pair.hl.hi = .h ∧ Pair.hl.lo = .l) ∧
  (∀ (p : Pair) (s : State) (v : Byte) (x : Word),
    (s.pair p).toNat = (s.reg p.hi).toNat * 256 + (s.reg p.lo).toNat ∧
    hiByte ((s.setReg p.hi v).pair p) = v ∧ loByte ((s.setReg p.hi v).pair p) = loByte (s.pair p) ∧
    loByte ((s.setReg p.lo v).pair p) = v ∧ hiByte ((s.setReg p.lo v).pair p) = hiByte (s.pair p) ∧
    (s.setPair p x).pair p = x ∧ (s.setPair p x).reg p.hi = hiByte x ∧ (s.setPair p x).reg p.lo = loByte x ∧
    composeAddress (pairMask p) s = some (s.pair p)) ∧
  (∀ (r q : Reg) (s : State), (∀ p : Pair, ¬ (p.hi = r ∧ p.lo = q) ∧ ¬ (p.hi = q ∧ p.lo = r)) →
    composeAddress (regMask r ||| regMask q) s = none)

/-- The memory bus (20_memory.md R52, R53): a read after a write to the same address gives the byte written, a write leaves every other
address alone and changes nothing but memory, and memory stays canonical; two canonical memories that read alike are equal. The canonical
form is the model's own (log entry 11). -/
def Obligations.BusReadsLastWrite : Prop :=
  (∀ (s : State) (addr : Word) (v : Byte), s.mem.wf →
    (s.memWrite addr v).memRead addr = v ∧ (s.memWrite addr v).mem.wf ∧
    (∀ other, other ≠ addr → (s.memWrite addr v).memRead other = s.memRead other) ∧
    { s.memWrite addr v with mem := s.mem } = s) ∧
  (∀ m m' : Memory, m.wf → m'.wf → (∀ addr : Word, m.read addr = m'.read addr) → m = m')

/-- The mask operations resolve as the tagged operands do (40_operand_resolution.md R116, R117): one set bit is the register itself, two are
the memory byte at the composed address. The masks' bits are the spec's decision D15 (log entry 10). -/
def Obligations.MasksResolveLikeOperands : Prop :=
  ∀ (o : Operand) (v : Byte) (s : State),
    readMask (operandMask o) s = some (readOperand o s) ∧
    writeMask (operandMask o) v s = some (writeOperand o v s)

/-- BitPosition of a one-bit mask is the position of its bit, the storage index of its register, and is not defined otherwise;
`ComposeAddress` of a pair's mask is its registers' bytes, high register first, and is not defined for a mask with another number of bits
(40_operand_resolution.md R112, R113). The storage indices, and with them the masks' bits, are the spec's decision D15 (log entry 10). -/
def Obligations.ComposeAddressIsThePairView : Prop :=
  (∀ i < 8, bitPosition (bitMask i) = some i) ∧
  (∀ r : Reg, bitPosition (regMask r) = some (regIndex r)) ∧
  (∀ m : RegMask, populationCount m ≠ 1 → bitPosition m = none) ∧
  (∀ s : State, composeAddress (pairMask .bc) s = some (joinBytes s.b s.c) ∧
    composeAddress (pairMask .de) s = some (joinBytes s.d s.e) ∧ composeAddress (pairMask .hl) s = some (joinBytes s.h s.l) ∧
    composeAddress (pairMask .af) s = some (joinBytes s.a s.f)) ∧
  (∀ hi lo : Byte, joinBytes hi lo = BitVec.ofNat 16 (hi.toNat * 256 + lo.toNat)) ∧
  (∀ (m : RegMask) (s : State), populationCount m ≠ 2 → composeAddress m s = none)

/-- A mask whose population count is neither 1 nor 2 is rejected by every operation, and the outcome is the fault InvalidOperandMask of the
instruction at hand with nothing else changed (40_operand_resolution.md R111, R119; 60_exceptions.md R264, the spec's decision D30, log
entry 10). -/
def Obligations.InvalidMasksFault : Prop :=
  ∀ (m : RegMask) (s : State) (v op : Byte) (addr : Word) (ext : Bool), populationCount m ≠ 1 → populationCount m ≠ 2 →
    readMask m s = none ∧ writeMask m v s = none ∧ loadImmediateMask params m s = none ∧
    pushMask params m s = none ∧ popMask params m s = none ∧ (∀ m', moveMask m m' s = none ∧ moveMask m' m s = none) ∧
    orInvalidMask op addr ext (writeMask m v s) s = { s with status := .faulted ⟨.invalidOperandMask, op, addr, ext⟩ }

/-! ## Reset and the host -/

/-- The reset values (10_state.md R35): registers and flags zero, the low nibble of F too, `pc` 0x0100, `sp` 0xFFFE, running, both after
construction, where every byte of memory is zero, and after `Reset()` from any state (70_reset_and_hazards.md R290 to R293). That
`Reset()` leaves memory alone and sets `status` to running is the spec's decision D20 (log entry 12). -/
def Obligations.ResetState : Prop :=
  let HasResetValues : State → Prop := fun t =>
    (∀ r, t.reg r = 0x00) ∧ t.flagZ = false ∧ t.flagN = false ∧ t.flagH = false ∧ t.flagC = false ∧ t.pc = 0x0100 ∧
    t.sp = 0xFFFE ∧ t.status = .running
  HasResetValues State.reset ∧ (∀ addr, State.reset.memRead addr = 0x00) ∧
  (∀ s : State, HasResetValues (hostReset s) ∧ ∀ addr, (hostReset s).memRead addr = s.memRead addr)

/-- LoadImage copies byte `k` of the buffer to address IMAGE_BASE + `k`, with the default base to address `k`, and changes nothing else;
a buffer longer than 65536 bytes is refused (70_reset_and_hazards.md R297). The base and the refusal are the spec's decision D19
(log entry 3); that a copy from another base wraps modulo 65536 is D14 (log entry 17). -/
def Obligations.LoadImageCopiesBuffer : Prop :=
  (∀ (cfg : Params) (buf : List Byte) (s : State), s.mem.wf →
    (buf.length > 65536 → loadImage cfg buf s = none) ∧
    (buf.length ≤ 65536 → ∃ t, loadImage cfg buf s = some t ∧
      (∀ (k : Nat) (v : Byte), buf[k]? = some v → t.memRead (cfg.imageBase + BitVec.ofNat 16 k) = v) ∧
      (∀ addr : Word, buf.length ≤ (addr - cfg.imageBase).toNat → t.memRead addr = s.memRead addr) ∧
      SameRegsBut [] s t ∧ SameControl s t ∧ t.mem.wf)) ∧
  (∀ (buf : List Byte) (s t : State), s.mem.wf → loadImage params buf s = some t →
    (∀ (k : Nat) (v : Byte), buf[k]? = some v → t.memRead (BitVec.ofNat 16 k) = v) ∧
    (∀ addr : Word, buf.length ≤ addr.toNat → t.memRead addr = s.memRead addr))

/-- `Reset()` and LoadImage commute, and `Reset()` twice is `Reset()` once (70_reset_and_hazards.md R295, R290). That `Reset()` leaves
memory alone is the spec's decision D20 (log entry 12), and that an oversize buffer is refused D19 (log entry 3). -/
def Obligations.ResetAndLoadImageCommute : Prop :=
  (∀ (cfg : Params) (buf : List Byte) (s : State),
    loadImage cfg buf (hostReset s) = (loadImage cfg buf s).map hostReset) ∧
  (∀ s : State, hostReset (hostReset s) = hostReset s)

/-- `Run()` with the stop signal low for `k` samples is `k` steps, whether the samples end there or the next one is high; from a faulted
CORE, or with the first sample high, it returns at once (46_dispatch.md R248; the sampling is the spec's decision D18, log entry 13, and
what a faulted CORE does D34, log entry 5). -/
def Obligations.RunIsRepeatedStep : Prop :=
  (∀ (k : Nat) (s : State), run (List.replicate k false) s = Host.Core.run Sys2Proof.core k s) ∧
  (∀ (k : Nat) (rest : List Bool) (s : State),
    run (List.replicate k false ++ true :: rest) s = Host.Core.run Sys2Proof.core k s) ∧
  (∀ (stops : List Bool) (s : State) (r : FaultRecord), s.status = .faulted r → run stops s = .next s) ∧
  (∀ (stops : List Bool) (s : State), run (true :: stops) s = .next s)

/-! ## Invariants -/

/-- Tier 3. Every step keeps memory in canonical form and keeps the fault record truthful: a recorded fault is the byte that stands at the
recorded address, a byte of the set its kind names, with `pc` one past it (60_exceptions.md R261 to R263, R266). The sets are the spec's
decisions D5 and D6 (log entry 16), the record and `pc` D16 and D17 (log entry 20), the wrap D14 (log entry 17); the canonical form is the
model's own (log entry 11). -/
def Obligations.StepKeepsInvariant : Prop := ∀ s t : State, Inv s → step s = .next t → Inv t

/-- The machine after construction meets the invariant. The values are those of 10_state.md R30 and R35; the canonical form is the model's
own (log entry 11). -/
def Obligations.ResetMeetsInvariant : Prop := Inv State.reset

/-- The host's operations keep the invariant: `Reset()` from any state that meets it, LoadImage from one that is running. What they leave
alone is the spec's decisions D19 and D20 (log entries 3, 12 and 13). -/
def Obligations.HostKeepsInvariant : Prop :=
  (∀ s : State, Inv s → Inv (hostReset s)) ∧
  (∀ (cfg : Params) (buf : List Byte) (s t : State), Inv s → s.status = .running → loadImage cfg buf s = some t → Inv t)

/-- Every step keeps the parity of `sp`, so that `sp` stays even from the reset value on (45_stack.md R227 (e)). That RST moves it by 2 is
the spec's decision D8 (log entry 19), and that it wraps D14 (log entry 17). -/
def Obligations.StepKeepsSpParity : Prop := ∀ s t : State, step s = .next t → t.sp.getLsbD 0 = s.sp.getLsbD 0
end

