-- ==== Sys2Proof/Laws/Bits.lean ====
section
/-! SUPPORT. Lemmas of the bit helpers (Machine/Bits.lean) and of the flag byte. -/

namespace Sys2Proof.Machine

theorem byte_ext {v w : Byte} (h : ∀ i < 8, bitAt v i = bitAt w i) : v = w :=
  BitVec.eq_of_getLsbD_eq (fun i hi => h i hi)

theorem bitAt_bitMask {i j : Nat} (hj : j < 8) : bitAt (bitMask i) j = decide (i = j) := by
  simp only [bitAt, bitMask, BitVec.getLsbD_shiftLeft, hj, decide_true, Bool.true_and]
  by_cases h : i = j
  · subst h; simp
  · rcases Nat.lt_or_gt_of_ne h with h' | h'
    · have : j - i ≠ 0 := by omega
      simp [h, this, BitVec.getLsbD_one]
    · simp [h, h']

/-- Writing one bit of a byte changes that bit and no other. -/
theorem bitAt_putBit {v : Byte} {x : Bool} {i j : Nat} (hj : j < 8) :
    bitAt (putBit v i x) j = if i = j then x else bitAt v j := by
  have hm := bitAt_bitMask (i := i) hj
  unfold bitAt at hm
  unfold putBit
  cases x <;> by_cases h : i = j <;> simp_all [bitAt]

@[simp] theorem hiByte_joinBytes (hi lo : Byte) : hiByte (joinBytes hi lo) = hi := by
  apply byte_ext; intro i hi'
  simp [hiByte, joinBytes, bitAt, hi', show 8 + i < 16 by omega]

@[simp] theorem loByte_joinBytes (hi lo : Byte) : loByte (joinBytes hi lo) = lo := by
  apply byte_ext; intro i hi'
  simp [loByte, joinBytes, bitAt, hi', show i < 16 by omega]

@[simp] theorem joinBytes_hiByte_loByte (v : Word) : joinBytes (hiByte v) (loByte v) = v := by
  apply BitVec.eq_of_getLsbD_eq; intro i hi
  by_cases h : i < 8
  · simp [hiByte, loByte, joinBytes, h, hi]
  · simp [hiByte, loByte, joinBytes, h, hi, show i - 8 < 8 by omega, show 8 + (i - 8) = i by omega]

theorem joinBytes_toNat (hi lo : Byte) : (joinBytes hi lo).toNat = hi.toNat * 256 + lo.toNat := by
  have h1 := hi.isLt
  have h2 := lo.isLt
  simp only [joinBytes, BitVec.toNat_or, BitVec.toNat_shiftLeft, BitVec.toNat_setWidth, Nat.shiftLeft_eq]
  rw [Nat.mod_eq_of_lt (by omega : hi.toNat < 2 ^ 16), Nat.mod_eq_of_lt (by omega : lo.toNat < 2 ^ 16),
    Nat.mod_eq_of_lt (by omega : hi.toNat * 2 ^ 8 < 2 ^ 16), Nat.mul_comm hi.toNat,
    ← Nat.two_pow_add_eq_or_of_lt (by omega)]
  omega

/-- The bits of the flag byte. -/
theorem bitAt_flagByte (z n h c : Bool) (low : Byte) {i : Nat} (hi : i < 8) :
    bitAt (flagByte z n h c low) i =
      if i = 7 then z else if i = 6 then n else if i = 5 then h else if i = 4 then c else bitAt low i := by
  have : i = 0 ∨ i = 1 ∨ i = 2 ∨ i = 3 ∨ i = 4 ∨ i = 5 ∨ i = 6 ∨ i = 7 := by omega
  rcases this with rfl | rfl | rfl | rfl | rfl | rfl | rfl | rfl <;>
    cases z <;> cases n <;> cases h <;> cases c <;> simp [bitAt, flagByte]

/-- A byte is the flag byte of its own bits. -/
theorem eq_flagByte_iff {v low : Byte} {z n h c : Bool} :
    v = flagByte z n h c low ↔
      bitAt v 7 = z ∧ bitAt v 6 = n ∧ bitAt v 5 = h ∧ bitAt v 4 = c ∧ ∀ i < 4, bitAt v i = bitAt low i := by
  constructor
  · rintro rfl
    refine ⟨by simp [bitAt_flagByte], by simp [bitAt_flagByte], by simp [bitAt_flagByte], by simp [bitAt_flagByte], ?_⟩
    intro i hi
    rw [bitAt_flagByte _ _ _ _ _ (by omega)]
    simp [show i ≠ 7 by omega, show i ≠ 6 by omega, show i ≠ 5 by omega, show i ≠ 4 by omega]
  · rintro ⟨h7, h6, h5, h4, hlow⟩
    apply byte_ext; intro i hi
    rw [bitAt_flagByte _ _ _ _ _ hi]
    split_ifs with h1 h2 h3 h4' <;> try (subst_vars; rfl)
    exact hlow i (by omega)

end Sys2Proof.Machine
end

