-- ==== Sys2Proof/Laws/Decode.lean ====
section
/-! SUPPORT. The laws of the decoder: the second byte is consulted only where the first asks for one, and the length of an
encoding is what the first byte says. -/

namespace Sys2Proof

/-- A statement about every byte, from the bytes 0 to 255 as numerals: `interval_cases` then closes it row by row. -/
theorem byte_cases {P : Byte → Prop} (h : ∀ n < 256, P (BitVec.ofNat 8 n)) (v : Byte) : P v := by
  have := h v.toNat v.isLt
  rwa [BitVec.ofNat_toNat, BitVec.setWidth_eq] at this

/-- Each first byte either asks for a second byte or settles the instruction (30_encoding.md R81). -/
theorem decodeBytes_const (op : Byte) : hasSecondByte op = true ∨ ∃ i, ∀ x, decodeBytes op x = i := by
  refine byte_cases (P := fun op => hasSecondByte op = true ∨ ∃ i, ∀ x, decodeBytes op x = i) (fun n hn => ?_) op
  interval_cases n <;> first | exact Or.inl rfl | exact Or.inr ⟨_, fun _ => rfl⟩

/-- Where the first byte asks for no second byte, none is consulted (30_encoding.md R81). -/
theorem decodeBytes_second (op x y : Byte) (h : hasSecondByte op = false) : decodeBytes op x = decodeBytes op y := by
  rcases decodeBytes_const op with h' | ⟨i, hi⟩
  · simp [h] at h'
  · rw [hi, hi]

/-- The decoder on memory's bytes: it reads an instruction, and leaves what its first byte says. -/
theorem decode_cons (op second : Byte) (rest : List Byte) :
    decode (op :: second :: rest) =
      if hasSecondByte op then .ok (decodeBytes op second) rest else .ok (decodeBytes op 0x00) (second :: rest) := by
  simp only [decode]

theorem encode_decodeExtended (sel : Byte) : encode (decodeExtended sel) = [0xCB, sel] := by
  refine byte_cases (P := fun sel => encode (decodeExtended sel) = [0xCB, sel]) (fun n hn => ?_) sel
  interval_cases n <;> rfl

/-- Encoding what the decoder reads gives the bytes it read. -/
theorem encode_decodeBytes (op second : Byte) :
    encode (decodeBytes op second) = if hasSecondByte op then [op, second] else [op] := by
  by_cases h : op = 0xCB
  · subst h; exact encode_decodeExtended second
  · revert h
    refine byte_cases (P := fun op => ¬ op = 0xCB →
      encode (decodeBytes op second) = if hasSecondByte op then [op, second] else [op]) (fun n hn => ?_) op
    interval_cases n <;> intro h <;> first | rfl | exact absurd rfl h

theorem encode_decodeBytes_length (op second : Byte) :
    (encode (decodeBytes op second)).length = if hasSecondByte op then 2 else 1 := by
  rw [encode_decodeBytes]; split <;> rfl

/-- What the decoder of full bytes reads is never `prefixCb` (46_dispatch.md R245). -/
theorem decodeBytes_wellFormed (op second : Byte) : (decodeBytes op second).wellFormed = true := by
  by_cases h : op = 0xCB
  · subst h
    refine byte_cases (P := fun second => (decodeBytes 0xCB second).wellFormed = true) (fun n hn => ?_) second
    interval_cases n <;> rfl
  · revert h
    refine byte_cases (P := fun op => ¬ op = 0xCB → (decodeBytes op second).wellFormed = true) (fun n hn => ?_) op
    interval_cases n <;> intro h <;> first | rfl | exact absurd rfl h

end Sys2Proof
end

