-- ==== Sys2Proof/Laws/Cascade.lean ====
section
/-! SUPPORT. The dispatch cascade where only the parameters a model may vary are varied: WIRED_SET at its default keeps nothing
from the cascade over the fields. -/

namespace Sys2Proof.Machine

/-- A set of bytes as a number whose bit `n` says whether byte `n` is in it. -/
def bitmap (l : List Byte) : Nat := l.foldr (fun b acc => 2 ^ b.toNat ||| acc) 0

theorem mem_iff_bitmap (l : List Byte) (op : Byte) : op ∈ l ↔ (bitmap l).testBit op.toNat = true := by
  induction l with
  | nil => simp [bitmap]
  | cons b l ih =>
    have hb : b.toNat = op.toNat ↔ op = b := ⟨fun h => (BitVec.eq_of_toNat_eq h).symm, fun h => h ▸ rfl⟩
    simp only [List.mem_cons, ih, bitmap, List.foldr_cons, Nat.testBit_or, Nat.testBit_two_pow, Bool.or_eq_true,
      decide_eq_true_eq, hb]

set_option maxRecDepth 10000 in
/-- The default WIRED_SET is what neither of the other two sets holds (30_encoding.md R88, R90, R91). -/
theorem mem_wiredPrimary (op : Byte) : op ∈ Config.wiredPrimary ↔ op ∉ invalidSet ∧ op ∉ unimplementedPrimarySet := by
  have h : bitmap Config.wiredPrimary = (2 ^ 256 - 1) ^^^ bitmap (invalidSet ++ unimplementedPrimarySet) := by decide
  rw [mem_iff_bitmap, h, Nat.testBit_xor, Nat.testBit_two_pow_sub_one, ← not_or, ← List.mem_append, mem_iff_bitmap]
  simp [show op.toNat < 256 from op.isLt]

set_option maxRecDepth 10000 in
/-- The same of the extended page (R93). -/
theorem mem_wiredExtended (sel : Byte) : sel ∈ Config.wiredExtended ↔ unimplementedSelector sel = false := by
  have h : bitmap Config.wiredExtended = 2 ^ 256 - 2 ^ 64 + (2 ^ 56 - 2 ^ 48) := by decide
  rw [mem_iff_bitmap, h]
  refine byte_cases (P := fun sel => (2 ^ 256 - 2 ^ 64 + (2 ^ 56 - 2 ^ 48)).testBit sel.toNat = true ↔
    unimplementedSelector sel = false) (fun n hn => ?_) sel
  interval_cases n <;> decide

/-- The cascade over the fields faults on an unimplemented byte by itself. -/
theorem primaryAction_unimplemented (cfg : Params) {op : Byte} (h : op ∈ unimplementedPrimarySet) (a0 : Word) (s : State) :
    primaryAction cfg op a0 s = raiseFault .notImplemented op a0 false s := by
  have key : unimplementedPrimarySet.Forall
      (fun op => primaryAction cfg op a0 s = raiseFault .notImplemented op a0 false s) := by
    repeat' apply And.intro
    all_goals rfl
  exact List.forall_iff_forall_mem.mp key op h

theorem extendedAction_unimplemented (cfg : Params) {sel : Byte} (h : unimplementedSelector sel = true) (a1 : Word) (s : State) :
    extendedAction cfg a1 sel s = raiseFault .notImplemented sel a1 true s := by
  revert h
  refine byte_cases (P := fun sel => unimplementedSelector sel = true →
    extendedAction cfg a1 sel s = raiseFault .notImplemented sel a1 true s) (fun n hn => ?_) sel
  interval_cases n <;> intro h <;> first | exact Bool.noConfusion (show false = true from h) | rfl

/-- With the default sets, the cascade over the fields is all there is beside the invalid bytes. -/
theorem primaryDispatch_eq (cfg : Params) (hi : cfg.invalidSet = invalidSet) (hw : cfg.wiredPrimary = Config.wiredPrimary)
    (op : Byte) (a0 : Word) (s : State) :
    primaryDispatch cfg op a0 s =
      if op ∈ invalidSet then raiseFault .invalidOpcode op a0 false s else primaryAction cfg op a0 s := by
  rw [primaryDispatch, hi, hw]
  by_cases h : op ∈ invalidSet
  · rw [if_pos h, if_pos h]
  · rw [if_neg h, if_neg h]
    by_cases hu : op ∈ unimplementedPrimarySet
    · rw [if_neg (fun hm => ((mem_wiredPrimary op).mp hm).2 hu), primaryAction_unimplemented cfg hu]
    · rw [if_pos ((mem_wiredPrimary op).mpr ⟨h, hu⟩)]

theorem extendedSelect_eq (cfg : Params) (hw : cfg.wiredExtended = Config.wiredExtended) (a1 : Word) (sel : Byte) (s : State) :
    extendedSelect cfg a1 sel s = extendedAction cfg a1 sel s := by
  rw [extendedSelect, hw]
  by_cases hu : unimplementedSelector sel = true
  · rw [if_neg (fun hm => by simp [(mem_wiredExtended sel).mp hm] at hu), extendedAction_unimplemented cfg hu]
  · rw [if_pos ((mem_wiredExtended sel).mpr (by simpa using hu))]

end Sys2Proof.Machine
end

