-- ==== Sys2Proof/Laws/State.lean ====
section
/-! SUPPORT. One lemma for each field and each update of the state, so that no later proof unfolds an update. -/

namespace Sys2Proof.Machine

/-! ### `memWrite` -/

@[simp] theorem memWrite_a (s : State) (addr : Word) (v : Byte) : (s.memWrite addr v).a = s.a := rfl
@[simp] theorem memWrite_f (s : State) (addr : Word) (v : Byte) : (s.memWrite addr v).f = s.f := rfl
@[simp] theorem memWrite_b (s : State) (addr : Word) (v : Byte) : (s.memWrite addr v).b = s.b := rfl
@[simp] theorem memWrite_c (s : State) (addr : Word) (v : Byte) : (s.memWrite addr v).c = s.c := rfl
@[simp] theorem memWrite_d (s : State) (addr : Word) (v : Byte) : (s.memWrite addr v).d = s.d := rfl
@[simp] theorem memWrite_e (s : State) (addr : Word) (v : Byte) : (s.memWrite addr v).e = s.e := rfl
@[simp] theorem memWrite_h (s : State) (addr : Word) (v : Byte) : (s.memWrite addr v).h = s.h := rfl
@[simp] theorem memWrite_l (s : State) (addr : Word) (v : Byte) : (s.memWrite addr v).l = s.l := rfl
@[simp] theorem memWrite_pc (s : State) (addr : Word) (v : Byte) : (s.memWrite addr v).pc = s.pc := rfl
@[simp] theorem memWrite_sp (s : State) (addr : Word) (v : Byte) : (s.memWrite addr v).sp = s.sp := rfl
@[simp] theorem memWrite_status (s : State) (addr : Word) (v : Byte) : (s.memWrite addr v).status = s.status := rfl

@[simp] theorem memWrite_mem (s : State) (addr : Word) (v : Byte) : (s.memWrite addr v).mem = s.mem.write addr v := rfl
@[simp] theorem reg_memWrite (s : State) (addr : Word) (v : Byte) (r : Reg) : (s.memWrite addr v).reg r = s.reg r := by
  cases r <;> rfl
@[simp] theorem pair_memWrite (s : State) (addr : Word) (v : Byte) (p : Pair) : (s.memWrite addr v).pair p = s.pair p := by
  cases p <;> rfl

/-! ### `setZ` -/

@[simp] theorem setZ_a (s : State) (cfg : Params) (x : Bool) : (s.setZ cfg x).a = s.a := rfl
@[simp] theorem setZ_b (s : State) (cfg : Params) (x : Bool) : (s.setZ cfg x).b = s.b := rfl
@[simp] theorem setZ_c (s : State) (cfg : Params) (x : Bool) : (s.setZ cfg x).c = s.c := rfl
@[simp] theorem setZ_d (s : State) (cfg : Params) (x : Bool) : (s.setZ cfg x).d = s.d := rfl
@[simp] theorem setZ_e (s : State) (cfg : Params) (x : Bool) : (s.setZ cfg x).e = s.e := rfl
@[simp] theorem setZ_h (s : State) (cfg : Params) (x : Bool) : (s.setZ cfg x).h = s.h := rfl
@[simp] theorem setZ_l (s : State) (cfg : Params) (x : Bool) : (s.setZ cfg x).l = s.l := rfl
@[simp] theorem setZ_pc (s : State) (cfg : Params) (x : Bool) : (s.setZ cfg x).pc = s.pc := rfl
@[simp] theorem setZ_sp (s : State) (cfg : Params) (x : Bool) : (s.setZ cfg x).sp = s.sp := rfl
@[simp] theorem setZ_mem (s : State) (cfg : Params) (x : Bool) : (s.setZ cfg x).mem = s.mem := rfl
@[simp] theorem setZ_status (s : State) (cfg : Params) (x : Bool) : (s.setZ cfg x).status = s.status := rfl

@[simp] theorem setZ_f (s : State) (cfg : Params) (x : Bool) : (s.setZ cfg x).f = putBit s.f cfg.zBit x := rfl
@[simp] theorem memRead_setZ (s : State) (cfg : Params) (x : Bool) (addr : Word) : (s.setZ cfg x).memRead addr = s.memRead addr := rfl

/-! ### `setN` -/

@[simp] theorem setN_a (s : State) (cfg : Params) (x : Bool) : (s.setN cfg x).a = s.a := rfl
@[simp] theorem setN_b (s : State) (cfg : Params) (x : Bool) : (s.setN cfg x).b = s.b := rfl
@[simp] theorem setN_c (s : State) (cfg : Params) (x : Bool) : (s.setN cfg x).c = s.c := rfl
@[simp] theorem setN_d (s : State) (cfg : Params) (x : Bool) : (s.setN cfg x).d = s.d := rfl
@[simp] theorem setN_e (s : State) (cfg : Params) (x : Bool) : (s.setN cfg x).e = s.e := rfl
@[simp] theorem setN_h (s : State) (cfg : Params) (x : Bool) : (s.setN cfg x).h = s.h := rfl
@[simp] theorem setN_l (s : State) (cfg : Params) (x : Bool) : (s.setN cfg x).l = s.l := rfl
@[simp] theorem setN_pc (s : State) (cfg : Params) (x : Bool) : (s.setN cfg x).pc = s.pc := rfl
@[simp] theorem setN_sp (s : State) (cfg : Params) (x : Bool) : (s.setN cfg x).sp = s.sp := rfl
@[simp] theorem setN_mem (s : State) (cfg : Params) (x : Bool) : (s.setN cfg x).mem = s.mem := rfl
@[simp] theorem setN_status (s : State) (cfg : Params) (x : Bool) : (s.setN cfg x).status = s.status := rfl

@[simp] theorem setN_f (s : State) (cfg : Params) (x : Bool) : (s.setN cfg x).f = putBit s.f cfg.nBit x := rfl
@[simp] theorem memRead_setN (s : State) (cfg : Params) (x : Bool) (addr : Word) : (s.setN cfg x).memRead addr = s.memRead addr := rfl

/-! ### `setH` -/

@[simp] theorem setH_a (s : State) (cfg : Params) (x : Bool) : (s.setH cfg x).a = s.a := rfl
@[simp] theorem setH_b (s : State) (cfg : Params) (x : Bool) : (s.setH cfg x).b = s.b := rfl
@[simp] theorem setH_c (s : State) (cfg : Params) (x : Bool) : (s.setH cfg x).c = s.c := rfl
@[simp] theorem setH_d (s : State) (cfg : Params) (x : Bool) : (s.setH cfg x).d = s.d := rfl
@[simp] theorem setH_e (s : State) (cfg : Params) (x : Bool) : (s.setH cfg x).e = s.e := rfl
@[simp] theorem setH_h (s : State) (cfg : Params) (x : Bool) : (s.setH cfg x).h = s.h := rfl
@[simp] theorem setH_l (s : State) (cfg : Params) (x : Bool) : (s.setH cfg x).l = s.l := rfl
@[simp] theorem setH_pc (s : State) (cfg : Params) (x : Bool) : (s.setH cfg x).pc = s.pc := rfl
@[simp] theorem setH_sp (s : State) (cfg : Params) (x : Bool) : (s.setH cfg x).sp = s.sp := rfl
@[simp] theorem setH_mem (s : State) (cfg : Params) (x : Bool) : (s.setH cfg x).mem = s.mem := rfl
@[simp] theorem setH_status (s : State) (cfg : Params) (x : Bool) : (s.setH cfg x).status = s.status := rfl

@[simp] theorem setH_f (s : State) (cfg : Params) (x : Bool) : (s.setH cfg x).f = putBit s.f cfg.hBit x := rfl
@[simp] theorem memRead_setH (s : State) (cfg : Params) (x : Bool) (addr : Word) : (s.setH cfg x).memRead addr = s.memRead addr := rfl

/-! ### `setC` -/

@[simp] theorem setC_a (s : State) (cfg : Params) (x : Bool) : (s.setC cfg x).a = s.a := rfl
@[simp] theorem setC_b (s : State) (cfg : Params) (x : Bool) : (s.setC cfg x).b = s.b := rfl
@[simp] theorem setC_c (s : State) (cfg : Params) (x : Bool) : (s.setC cfg x).c = s.c := rfl
@[simp] theorem setC_d (s : State) (cfg : Params) (x : Bool) : (s.setC cfg x).d = s.d := rfl
@[simp] theorem setC_e (s : State) (cfg : Params) (x : Bool) : (s.setC cfg x).e = s.e := rfl
@[simp] theorem setC_h (s : State) (cfg : Params) (x : Bool) : (s.setC cfg x).h = s.h := rfl
@[simp] theorem setC_l (s : State) (cfg : Params) (x : Bool) : (s.setC cfg x).l = s.l := rfl
@[simp] theorem setC_pc (s : State) (cfg : Params) (x : Bool) : (s.setC cfg x).pc = s.pc := rfl
@[simp] theorem setC_sp (s : State) (cfg : Params) (x : Bool) : (s.setC cfg x).sp = s.sp := rfl
@[simp] theorem setC_mem (s : State) (cfg : Params) (x : Bool) : (s.setC cfg x).mem = s.mem := rfl
@[simp] theorem setC_status (s : State) (cfg : Params) (x : Bool) : (s.setC cfg x).status = s.status := rfl

@[simp] theorem setC_f (s : State) (cfg : Params) (x : Bool) : (s.setC cfg x).f = putBit s.f cfg.cBit x := rfl
@[simp] theorem memRead_setC (s : State) (cfg : Params) (x : Bool) (addr : Word) : (s.setC cfg x).memRead addr = s.memRead addr := rfl

/-! ### `setReg` -/

@[simp] theorem setReg_pc (s : State) (r : Reg) (v : Byte) : (s.setReg r v).pc = s.pc := by cases r <;> rfl
@[simp] theorem setReg_sp (s : State) (r : Reg) (v : Byte) : (s.setReg r v).sp = s.sp := by cases r <;> rfl
@[simp] theorem setReg_mem (s : State) (r : Reg) (v : Byte) : (s.setReg r v).mem = s.mem := by cases r <;> rfl
@[simp] theorem setReg_status (s : State) (r : Reg) (v : Byte) : (s.setReg r v).status = s.status := by cases r <;> rfl
@[simp] theorem memRead_setReg (s : State) (r : Reg) (v : Byte) (addr : Word) :
    (s.setReg r v).memRead addr = s.memRead addr := by cases r <;> rfl
@[simp] theorem reg_setReg_same (s : State) (r : Reg) (v : Byte) : (s.setReg r v).reg r = v := by cases r <;> rfl
theorem reg_setReg_other (s : State) {r q : Reg} (v : Byte) (h : q ≠ r) : (s.setReg r v).reg q = s.reg q := by
  cases r <;> cases q <;> first | rfl | exact absurd rfl h
theorem reg_setReg (s : State) (r q : Reg) (v : Byte) : (s.setReg r v).reg q = if q = r then v else s.reg q := by
  split_ifs with h
  · subst h; simp
  · exact reg_setReg_other s v h
@[simp] theorem setReg_f_toReg (s : State) (r : GReg) (v : Byte) : (s.setReg r.toReg v).f = s.f := by cases r <;> rfl
theorem setReg_reg_self (s : State) (r : Reg) : s.setReg r (s.reg r) = s := by cases r <;> rfl

/-! ### `raiseFault` -/

@[simp] theorem raiseFault_a (k : FaultKind) (op : Byte) (addr : Word) (ext : Bool) (s : State) :
    (raiseFault k op addr ext s).a = s.a := rfl
@[simp] theorem raiseFault_f (k : FaultKind) (op : Byte) (addr : Word) (ext : Bool) (s : State) :
    (raiseFault k op addr ext s).f = s.f := rfl
@[simp] theorem raiseFault_b (k : FaultKind) (op : Byte) (addr : Word) (ext : Bool) (s : State) :
    (raiseFault k op addr ext s).b = s.b := rfl
@[simp] theorem raiseFault_c (k : FaultKind) (op : Byte) (addr : Word) (ext : Bool) (s : State) :
    (raiseFault k op addr ext s).c = s.c := rfl
@[simp] theorem raiseFault_d (k : FaultKind) (op : Byte) (addr : Word) (ext : Bool) (s : State) :
    (raiseFault k op addr ext s).d = s.d := rfl
@[simp] theorem raiseFault_e (k : FaultKind) (op : Byte) (addr : Word) (ext : Bool) (s : State) :
    (raiseFault k op addr ext s).e = s.e := rfl
@[simp] theorem raiseFault_h (k : FaultKind) (op : Byte) (addr : Word) (ext : Bool) (s : State) :
    (raiseFault k op addr ext s).h = s.h := rfl
@[simp] theorem raiseFault_l (k : FaultKind) (op : Byte) (addr : Word) (ext : Bool) (s : State) :
    (raiseFault k op addr ext s).l = s.l := rfl
@[simp] theorem raiseFault_pc (k : FaultKind) (op : Byte) (addr : Word) (ext : Bool) (s : State) :
    (raiseFault k op addr ext s).pc = s.pc := rfl
@[simp] theorem raiseFault_sp (k : FaultKind) (op : Byte) (addr : Word) (ext : Bool) (s : State) :
    (raiseFault k op addr ext s).sp = s.sp := rfl
@[simp] theorem raiseFault_mem (k : FaultKind) (op : Byte) (addr : Word) (ext : Bool) (s : State) :
    (raiseFault k op addr ext s).mem = s.mem := rfl
@[simp] theorem raiseFault_status (k : FaultKind) (op : Byte) (addr : Word) (ext : Bool) (s : State) :
    (raiseFault k op addr ext s).status = .faulted ⟨k, op, addr, ext⟩ := rfl

/-! ### The flag positions of the machine -/

@[simp] theorem params_zBit : params.zBit = 7 := rfl
@[simp] theorem params_nBit : params.nBit = 6 := rfl
@[simp] theorem params_hBit : params.hBit = 5 := rfl
@[simp] theorem params_cBit : params.cBit = 4 := rfl

/-! ### Addresses one on and one back -/

/-- WRAP has one value, so the next address is one more modulo 65536 under every setting of the parameters. -/
@[simp] theorem addrNext_eq (cfg : Params) (addr : Word) : addrNext cfg addr = addr + 1 := rfl

/-- The same one back. -/
@[simp] theorem addrPrev_eq (cfg : Params) (addr : Word) : addrPrev cfg addr = addr - 1 := rfl

/-! ### `push16`, `pop16`, `fetch8`, `hostReset` -/

@[simp] theorem push16_a (v : Word) (s : State) {cfg : Params} : (push16 v s cfg).a = s.a := rfl
@[simp] theorem push16_f (v : Word) (s : State) {cfg : Params} : (push16 v s cfg).f = s.f := rfl
@[simp] theorem push16_b (v : Word) (s : State) {cfg : Params} : (push16 v s cfg).b = s.b := rfl
@[simp] theorem push16_c (v : Word) (s : State) {cfg : Params} : (push16 v s cfg).c = s.c := rfl
@[simp] theorem push16_d (v : Word) (s : State) {cfg : Params} : (push16 v s cfg).d = s.d := rfl
@[simp] theorem push16_e (v : Word) (s : State) {cfg : Params} : (push16 v s cfg).e = s.e := rfl
@[simp] theorem push16_h (v : Word) (s : State) {cfg : Params} : (push16 v s cfg).h = s.h := rfl
@[simp] theorem push16_l (v : Word) (s : State) {cfg : Params} : (push16 v s cfg).l = s.l := rfl
@[simp] theorem push16_pc (v : Word) (s : State) {cfg : Params} : (push16 v s cfg).pc = s.pc := rfl
@[simp] theorem push16_status (v : Word) (s : State) {cfg : Params} : (push16 v s cfg).status = s.status := rfl
@[simp] theorem push16_sp (v : Word) (s : State) {cfg : Params} : (push16 v s cfg).sp = s.sp - 2 := by
  simp only [push16, State.memWrite, addrPrev_eq]
  bv_omega
theorem push16_mem (v : Word) (s : State) {cfg : Params} :
    (push16 v s cfg).mem = (s.mem.write s.sp (hiByte v)).write (s.sp - 1) (loByte v) := by
  simp only [push16, State.memWrite, addrPrev_eq]
@[simp] theorem reg_push16 (v : Word) (s : State) (r : Reg) {cfg : Params} : (push16 v s cfg).reg r = s.reg r := by cases r <;> rfl
@[simp] theorem pop16_snd_a (s : State) {cfg : Params} : (pop16 s cfg).2.a = s.a := rfl
@[simp] theorem pop16_snd_f (s : State) {cfg : Params} : (pop16 s cfg).2.f = s.f := rfl
@[simp] theorem pop16_snd_b (s : State) {cfg : Params} : (pop16 s cfg).2.b = s.b := rfl
@[simp] theorem pop16_snd_c (s : State) {cfg : Params} : (pop16 s cfg).2.c = s.c := rfl
@[simp] theorem pop16_snd_d (s : State) {cfg : Params} : (pop16 s cfg).2.d = s.d := rfl
@[simp] theorem pop16_snd_e (s : State) {cfg : Params} : (pop16 s cfg).2.e = s.e := rfl
@[simp] theorem pop16_snd_h (s : State) {cfg : Params} : (pop16 s cfg).2.h = s.h := rfl
@[simp] theorem pop16_snd_l (s : State) {cfg : Params} : (pop16 s cfg).2.l = s.l := rfl
@[simp] theorem pop16_snd_pc (s : State) {cfg : Params} : (pop16 s cfg).2.pc = s.pc := rfl
@[simp] theorem pop16_snd_mem (s : State) {cfg : Params} : (pop16 s cfg).2.mem = s.mem := rfl
@[simp] theorem pop16_snd_status (s : State) {cfg : Params} : (pop16 s cfg).2.status = s.status := rfl
@[simp] theorem pop16_snd_sp (s : State) {cfg : Params} : (pop16 s cfg).2.sp = s.sp + 2 := by
  simp only [pop16, addrNext_eq]
  bv_omega
theorem pop16_fst (s : State) {cfg : Params} : (pop16 s cfg).1 = joinBytes (s.memRead (s.sp + 2)) (s.memRead (s.sp + 1)) := by
  simp only [pop16, addrNext_eq, show s.sp + 1 + 1 = s.sp + 2 by bv_omega]
  rfl
@[simp] theorem reg_pop16_snd (s : State) (r : Reg) {cfg : Params} : (pop16 s cfg).2.reg r = s.reg r := by cases r <;> rfl
@[simp] theorem fetch8_snd_a (s : State) {cfg : Params} : (fetch8 s cfg).2.a = s.a := rfl
@[simp] theorem fetch8_snd_f (s : State) {cfg : Params} : (fetch8 s cfg).2.f = s.f := rfl
@[simp] theorem fetch8_snd_b (s : State) {cfg : Params} : (fetch8 s cfg).2.b = s.b := rfl
@[simp] theorem fetch8_snd_c (s : State) {cfg : Params} : (fetch8 s cfg).2.c = s.c := rfl
@[simp] theorem fetch8_snd_d (s : State) {cfg : Params} : (fetch8 s cfg).2.d = s.d := rfl
@[simp] theorem fetch8_snd_e (s : State) {cfg : Params} : (fetch8 s cfg).2.e = s.e := rfl
@[simp] theorem fetch8_snd_h (s : State) {cfg : Params} : (fetch8 s cfg).2.h = s.h := rfl
@[simp] theorem fetch8_snd_l (s : State) {cfg : Params} : (fetch8 s cfg).2.l = s.l := rfl
@[simp] theorem fetch8_snd_sp (s : State) {cfg : Params} : (fetch8 s cfg).2.sp = s.sp := rfl
@[simp] theorem fetch8_snd_mem (s : State) {cfg : Params} : (fetch8 s cfg).2.mem = s.mem := rfl
@[simp] theorem fetch8_snd_status (s : State) {cfg : Params} : (fetch8 s cfg).2.status = s.status := rfl
@[simp] theorem fetch8_snd_pc (s : State) {cfg : Params} : (fetch8 s cfg).2.pc = s.pc + 1 := addrNext_eq cfg s.pc
@[simp] theorem fetch8_fst (s : State) {cfg : Params} : (fetch8 s cfg).1 = s.memRead s.pc := rfl
@[simp] theorem memRead_fetch8_snd (s : State) (addr : Word) {cfg : Params} : (fetch8 s cfg).2.memRead addr = s.memRead addr := rfl
@[simp] theorem hostReset_mem (s : State) : (hostReset s).mem = s.mem := rfl
@[simp] theorem hostReset_status (s : State) : (hostReset s).status = .running := rfl

/-! ### The whole state -/

/-- Two states with the same registers, control state and memory are equal. -/
theorem state_ext_reg {s t : State} (hr : ∀ r, s.reg r = t.reg r) (hpc : s.pc = t.pc) (hsp : s.sp = t.sp)
    (hm : s.mem = t.mem) (hst : s.status = t.status) : s = t := by
  have ha := hr .a; have hf := hr .f; have hb := hr .b; have hc := hr .c
  have hd := hr .d; have he := hr .e; have hh := hr .h; have hl := hr .l
  cases s; cases t
  simp only [State.reg] at ha hf hb hc hd he hh hl
  simp_all

end Sys2Proof.Machine
end

