-- ==== Sys2Proof/Laws/Flags.lean ====
section
/-! SUPPORT. What the flag computations do: the carry vector in closed form, and the byte F after a policy. -/

namespace Sys2Proof.Machine

theorem getLsbD_eq_div {w : Nat} (v : BitVec w) (i : Nat) : v.getLsbD i = decide (v.toNat / 2 ^ i % 2 = 1) :=
  Nat.testBit_eq_decide_div_mod_eq

/-- The xor of two bits known by remainders. -/
theorem xor_decide (x y : Nat) : (decide (x % 2 = 1) ^^ decide (y % 2 = 1)) = decide ((x + y) % 2 = 1) := by
  rcases Nat.mod_two_eq_zero_or_one x with hx | hx <;> rcases Nat.mod_two_eq_zero_or_one y with hy | hy <;>
    simp [hx, hy, Nat.add_mod]

/-- A bit of the carry vector, from the low 9 bits of the exact result. -/
theorem carryVector_bit {isSubtract : Bool} {lhs rhs : Byte} {k w : Nat}
    (hw : carryVector isSubtract lhs rhs k = lhs.zeroExtend 9 ^^^ rhs.zeroExtend 9 ^^^ BitVec.ofNat 9 w) (hlt : w < 512) :
    (carryVector isSubtract lhs rhs k).getLsbD 4 = decide ((lhs.toNat / 16 + rhs.toNat / 16 + w / 16) % 2 = 1) ∧
    (carryVector isSubtract lhs rhs k).getLsbD 8 = decide (w / 256 % 2 = 1) := by
  have hl := lhs.isLt
  have hr := rhs.isLt
  rw [hw]
  constructor <;>
  · rw [BitVec.getLsbD_xor, BitVec.getLsbD_xor]
    simp only [getLsbD_eq_div, BitVec.truncate_eq_setWidth, BitVec.toNat_setWidth, BitVec.toNat_ofNat, xor_decide]
    rw [decide_eq_decide]
    omega

/-- The carry vector of an addition: bit 4 is the half-carry, bit 8 the carry (42_alu_binary.md R158). -/
theorem carryVector_add (lhs rhs : Byte) (k : Nat) (hk : k ≤ 1) :
    (carryVector false lhs rhs k).getLsbD 4 = decide (lhs.toNat % 16 + (rhs.toNat % 16 + k) > 0xF) ∧
    (carryVector false lhs rhs k).getLsbD 8 = decide (lhs.toNat + (rhs.toNat + k) > 0xFF) := by
  have hl := lhs.isLt
  have hr := rhs.isLt
  have hw : BitVec.ofInt 9 ((lhs.toNat : Int) + rhs.toNat + k) = BitVec.ofNat 9 (lhs.toNat + rhs.toNat + k) := by
    rw [← BitVec.ofInt_natCast]; push_cast; rfl
  obtain ⟨h4, h8⟩ := carryVector_bit (isSubtract := false) (lhs := lhs) (rhs := rhs) (k := k)
    (w := lhs.toNat + rhs.toNat + k) (by simp [carryVector, hw]) (by omega)
  rw [h4, h8]
  exact ⟨decide_eq_decide.mpr (by omega), decide_eq_decide.mpr (by omega)⟩

/-- The carry vector of a subtraction: bit 4 is the half-borrow, bit 8 the borrow (42_alu_binary.md R158). -/
theorem carryVector_sub (lhs rhs : Byte) (k : Nat) (hk : k ≤ 1) :
    (carryVector true lhs rhs k).getLsbD 4 = decide (lhs.toNat % 16 < rhs.toNat % 16 + k) ∧
    (carryVector true lhs rhs k).getLsbD 8 = decide (lhs.toNat < rhs.toNat + k) := by
  have hl := lhs.isLt
  have hr := rhs.isLt
  have hw : BitVec.ofInt 9 ((lhs.toNat : Int) - rhs.toNat - k) =
      BitVec.ofNat 9 ((lhs.toNat + 512 - rhs.toNat - k) % 512) := by
    apply BitVec.eq_of_toNat_eq
    simp only [BitVec.toNat_ofInt, BitVec.toNat_ofNat]
    omega
  obtain ⟨h4, h8⟩ := carryVector_bit (isSubtract := true) (lhs := lhs) (rhs := rhs) (k := k)
    (w := (lhs.toNat + 512 - rhs.toNat - k) % 512) (by simp [carryVector, hw]) (by omega)
  rw [h4, h8]
  exact ⟨decide_eq_decide.mpr (by omega), decide_eq_decide.mpr (by omega)⟩

/-! ## The byte F after a policy -/

theorem putBits_znhc (v : Byte) (z n h c : Bool) :
    putBit (putBit (putBit (putBit v 7 z) 6 n) 5 h) 4 c = flagByte z n h c v := by
  rw [eq_flagByte_iff]
  refine ⟨?_, ?_, ?_, ?_, ?_⟩
  iterate 4 simp [bitAt_putBit]
  intro i hi
  have : i < 8 := by omega
  simp [bitAt_putBit, this, show ¬ 4 = i by omega, show ¬ 5 = i by omega, show ¬ 6 = i by omega, show ¬ 7 = i by omega]

theorem putBits_znch (v : Byte) (z n h c : Bool) :
    putBit (putBit (putBit (putBit v 7 z) 6 n) 4 c) 5 h = flagByte z n h c v := by
  rw [eq_flagByte_iff]
  refine ⟨?_, ?_, ?_, ?_, ?_⟩
  iterate 4 simp [bitAt_putBit]
  intro i hi
  have : i < 8 := by omega
  simp [bitAt_putBit, this, show ¬ 4 = i by omega, show ¬ 5 = i by omega, show ¬ 6 = i by omega, show ¬ 7 = i by omega]

theorem putBits_znh (v : Byte) (z n h : Bool) :
    putBit (putBit (putBit v 7 z) 6 n) 5 h = flagByte z n h (bitAt v 4) v := by
  rw [eq_flagByte_iff]
  refine ⟨?_, ?_, ?_, ?_, ?_⟩
  iterate 4 simp [bitAt_putBit]
  intro i hi
  have : i < 8 := by omega
  simp [bitAt_putBit, this, show ¬ 5 = i by omega, show ¬ 6 = i by omega, show ¬ 7 = i by omega]

/-- The flags of a flag byte. -/
@[simp] theorem bitAt_flagByte_7 (z n h c : Bool) (low : Byte) : bitAt (flagByte z n h c low) 7 = z := by
  simp [bitAt_flagByte]
@[simp] theorem bitAt_flagByte_6 (z n h c : Bool) (low : Byte) : bitAt (flagByte z n h c low) 6 = n := by
  simp [bitAt_flagByte]
@[simp] theorem bitAt_flagByte_5 (z n h c : Bool) (low : Byte) : bitAt (flagByte z n h c low) 5 = h := by
  simp [bitAt_flagByte]
@[simp] theorem bitAt_flagByte_4 (z n h c : Bool) (low : Byte) : bitAt (flagByte z n h c low) 4 = c := by
  simp [bitAt_flagByte]

/-- A flag byte keeps the bits its mask does not name: a policy that writes all four flags. -/
theorem flagByte_and_low (z n h c : Bool) (low : Byte) : flagByte z n h c low &&& 0x0F = low &&& 0x0F := by
  unfold flagByte
  cases z <;> cases n <;> cases h <;> cases c <;> (apply byte_ext; intro i hi; interval_cases i <;> simp [bitAt])

/-- The same for a policy that leaves C alone. -/
theorem flagByte_and_cLow (z n h : Bool) (v : Byte) : flagByte z n h (bitAt v 4) v &&& 0x1F = v &&& 0x1F := by
  apply byte_ext
  intro i hi
  have hb := bitAt_flagByte z n h (bitAt v 4) v hi
  simp only [bitAt] at hb
  simp only [bitAt, BitVec.getLsbD_and, hb]
  interval_cases i <;> simp

/-- A flag byte depends on the low nibble of its last argument only. -/
theorem flagByte_low (z n h c : Bool) (v : Byte) : flagByte z n h c (v &&& 0x0F) = flagByte z n h c v := by
  unfold flagByte; rw [BitVec.and_assoc]; rfl

/-! ## The ALU and the bit engine -/

/-- `ExecuteBinary` in closed form at either setting of CARRY_IN_FLAGS: all it does is write A and the four flags. -/
def binaryResult (carryIn : Bool) (fn : AluFn) (b : Byte) (s : State) : State :=
  let k : Nat := if carryIn && (usesCarryIn fn && s.flagC) then 1 else 0
  let res := binaryFn fn s.a b s.flagC
  let z := res == 0
  match fn with
  | .add | .adc =>
    { s with
      a := res
      f := flagByte z false (decide (s.a.toNat % 16 + (b.toNat % 16 + k) > 0xF)) (decide (s.a.toNat + (b.toNat + k) > 0xFF)) s.f }
  | .sub | .sbc =>
    { s with
      a := res
      f := flagByte z true (decide (s.a.toNat % 16 < b.toNat % 16 + k)) (decide (s.a.toNat < b.toNat + k)) s.f }
  | .and => { s with a := res, f := flagByte z false true false s.f }
  | .xor | .or => { s with a := res, f := flagByte z false false false s.f }

/-- With the flags at their default positions, `ExecuteBinary` answers `binaryResult`. -/
theorem executeBinary_carryIn (cfg : Params) (hz : cfg.zBit = 7) (hn : cfg.nBit = 6) (hh : cfg.hBit = 5) (hc : cfg.cBit = 4)
    (fn : AluFn) (b : Byte) (s : State) : executeBinary cfg fn b s = binaryResult cfg.carryInFlags fn b s := by
  have hC : s.flagC cfg = s.flagC := by rw [State.flagC, hc]; rfl
  have hk : (if cfg.carryInFlags && (usesCarryIn fn && s.flagC) then 1 else 0) ≤ 1 := by split <;> omega
  have ha := carryVector_add s.a b _ hk
  have hs := carryVector_sub s.a b _ hk
  cases fn <;>
    simp only [executeBinary, binaryResult, binaryPolicy, hasCarryHandler, detectCarries, hC, State.setZ, State.setN, State.setH,
      State.setC, State.flagN, hz, hn, hh, hc, bitAt_putBit, ha.1, ha.2, hs.1, hs.2, putBits_znhc, putBits_znch, if_true,
      if_false, Bool.false_eq_true, show (6 : Nat) < 8 by omega]

theorem executeBinary_eq (fn : AluFn) (b : Byte) (s : State) : executeBinary params fn b s = binaryResult false fn b s :=
  executeBinary_carryIn params rfl rfl rfl rfl fn b s

/-- `ExecuteUnary` in closed form: the operand is written, then F, in which INC and DEC keep C. -/
theorem executeUnary_eq (fn : UnaryFn) (o : Operand) (s : State) (ho : o ≠ .reg .f) :
    executeUnary params fn o s =
      let v := readOperand o s
      let res := unaryOp fn v
      { writeOperand o res s with f :=
          (match fn with
            | .inc => flagByte (res == 0) false (lowNibble v == 0xF) s.flagC s.f
            | .dec => flagByte (res == 0) true (lowNibble v == 0x0) s.flagC s.f
            | .swap => flagByte (res == 0) false false false s.f) } := by
  have hf : ∀ v, (writeOperand o v s).f = s.f := by
    intro v
    cases o with
    | reg r => cases r <;> first | rfl | exact absurd rfl ho
    | mem p => rfl
  cases fn with
  | swap => simp only [executeUnary, unaryPolicy, State.setZ, State.setN, State.setH, State.setC, params, hf, putBits_znhc]
  | inc => simp only [executeUnary, unaryPolicy, State.setZ, State.setN, State.setH, params, incHalfCarry, hf,
      putBits_znh, State.flagC]
  | dec => simp only [executeUnary, unaryPolicy, State.setZ, State.setN, State.setH, params, decHalfCarry, hf,
      putBits_znh, State.flagC]

/-- `TestBit` in closed form. -/
theorem testBit_eq (o : Operand) (b : Oct) (s : State) :
    testBit params o b s = { s with f := flagByte (!bitAt (readOperand o s) b.toNat) false true s.flagC s.f } := by
  simp only [testBit, State.setZ, State.setN, State.setH, params, putBits_znh, State.flagC]

end Sys2Proof.Machine
end

