-- ==== Sys2Proof/Laws/Forms.lean ====
section
/-! SUPPORT. The 371 wired arms of `exec` folded into one function of the form, and the correspondence of forms and instructions.
Every later proof about wired instructions goes through `exec_form`. -/

namespace Sys2Proof.Machine

/-- What the meaning of a form does, over the shared operations; the machine's is the one at the default parameters. -/
def perform (form : Form) (s : State) (cfg : Params := params) : State :=
  match form with
  | .nop => s
  | .ldImm r n => loadImmediate r n s
  | .ldReg dst r => move (.reg dst.toReg) (.reg r.toReg) s
  | .ldFromHl dst => move (.reg dst.toReg) (.mem .hl) s
  | .ldToHl r => move (.mem .hl) (.reg r.toReg) s
  | .ldAFrom p => move (.reg .a) (.mem p.toPair) s
  | .ldATo p => move (.mem p.toPair) (.reg .a) s
  | .alu fn q => binaryOn cfg fn (slotOperand q) s
  | .aluImm fn n => executeBinary cfg fn n s
  | .unary fn q => executeUnary cfg fn (slotOperand q) s
  | .bitOp .test b q => testBit cfg (slotOperand q) b s
  | .bitOp .reset b q => resetBit (slotOperand q) b s
  | .bitOp .set b q => setBit (slotOperand q) b s
  | .push p => push cfg p s
  | .pop p => pop cfg p s
  | .rst t => callFixedVector cfg (BitVec.ofNat 16 (8 * t.toNat)) s

theorem exec_form_nop (s : State) : exec Form.nop.instr s = .next (perform .nop s) := rfl

theorem exec_form_ldImm (r : GReg) (n : Byte) (s : State) :
    exec (Form.ldImm r n).instr s = .next (perform (.ldImm r n) s) := by cases r <;> rfl

theorem exec_form_ldReg (dst r : GReg) (s : State) :
    exec (Form.ldReg dst r).instr s = .next (perform (.ldReg dst r) s) := by cases dst <;> cases r <;> rfl

theorem exec_form_ldFromHl (dst : GReg) (s : State) :
    exec (Form.ldFromHl dst).instr s = .next (perform (.ldFromHl dst) s) := by cases dst <;> rfl

theorem exec_form_ldToHl (r : GReg) (s : State) :
    exec (Form.ldToHl r).instr s = .next (perform (.ldToHl r) s) := by cases r <;> rfl

theorem exec_form_ldAFrom (p : IndPair) (s : State) :
    exec (Form.ldAFrom p).instr s = .next (perform (.ldAFrom p) s) := by cases p <;> rfl

theorem exec_form_ldATo (p : IndPair) (s : State) :
    exec (Form.ldATo p).instr s = .next (perform (.ldATo p) s) := by cases p <;> rfl

theorem exec_form_alu (fn : AluFn) (q : Slot) (s : State) :
    exec (Form.alu fn q).instr s = .next (perform (.alu fn q) s) := by
  cases fn <;> rcases q with (_ | _ | _ | _ | _ | _ | _) | _ <;> rfl

theorem exec_form_aluImm (fn : AluFn) (n : Byte) (s : State) :
    exec (Form.aluImm fn n).instr s = .next (perform (.aluImm fn n) s) := by cases fn <;> rfl

theorem exec_form_unary (fn : UnaryFn) (q : Slot) (s : State) :
    exec (Form.unary fn q).instr s = .next (perform (.unary fn q) s) := by
  cases fn <;> rcases q with (_ | _ | _ | _ | _ | _ | _) | _ <;> rfl

theorem exec_form_bitOp (fn : BitFn) (b : Oct) (q : Slot) (s : State) :
    exec (Form.bitOp fn b q).instr s = .next (perform (.bitOp fn b q) s) := by
  cases fn <;> cases b <;> rcases q with (_ | _ | _ | _ | _ | _ | _) | _ <;> rfl

theorem exec_form_push (p : Pair) (s : State) : exec (Form.push p).instr s = .next (perform (.push p) s) := by
  cases p <;> rfl

theorem exec_form_pop (p : Pair) (s : State) : exec (Form.pop p).instr s = .next (perform (.pop p) s) := by
  cases p <;> rfl

theorem exec_form_rst (t : Oct) (s : State) : exec (Form.rst t).instr s = .next (perform (.rst t) s) := by
  cases t <;> rfl

/-- Every wired instruction answers the next state its form gives. -/
theorem exec_form (form : Form) (s : State) : exec form.instr s = .next (perform form s) := by
  cases form with
  | nop => exact exec_form_nop s
  | ldImm r n => exact exec_form_ldImm r n s
  | ldReg dst r => exact exec_form_ldReg dst r s
  | ldFromHl dst => exact exec_form_ldFromHl dst s
  | ldToHl r => exact exec_form_ldToHl r s
  | ldAFrom p => exact exec_form_ldAFrom p s
  | ldATo p => exact exec_form_ldATo p s
  | alu fn q => exact exec_form_alu fn q s
  | aluImm fn n => exact exec_form_aluImm fn n s
  | unary fn q => exact exec_form_unary fn q s
  | bitOp fn b q => exact exec_form_bitOp fn b q s
  | push p => exact exec_form_push p s
  | pop p => exact exec_form_pop p s
  | rst t => exact exec_form_rst t s

/-! ## Forms and instructions -/

/-- The form of a form's instruction is that form. -/
theorem form_instr (form : Form) : form.instr.form = some form := by
  cases form with
  | nop => rfl
  | ldImm r n => cases r <;> rfl
  | ldReg dst r => cases dst <;> cases r <;> rfl
  | ldFromHl dst => cases dst <;> rfl
  | ldToHl r => cases r <;> rfl
  | ldAFrom p => cases p <;> rfl
  | ldATo p => cases p <;> rfl
  | alu fn q => cases fn <;> rcases q with (_ | _ | _ | _ | _ | _ | _) | _ <;> rfl
  | aluImm fn n => cases fn <;> rfl
  | unary fn q => cases fn <;> rcases q with (_ | _ | _ | _ | _ | _ | _) | _ <;> rfl
  | bitOp fn b q => cases fn <;> cases b <;> rcases q with (_ | _ | _ | _ | _ | _ | _) | _ <;> rfl
  | push p => cases p <;> rfl
  | pop p => cases p <;> rfl
  | rst t => cases t <;> rfl

/-- An instruction that has a form is that form's instruction. -/
theorem instr_of_form {i : Instr} {form : Form} (h : i.form = some form) : form.instr = i := by
  cases i <;> first | (cases h; rfl) | exact absurd h (by simp [Instr.form])

/-- The length of a form's encoding in bytes (30_encoding.md R81). -/
def formLength : Form → Nat
  | .ldImm _ _ => 2
  | .aluImm _ _ => 2
  | .unary .swap _ => 2
  | .unary .inc _ => 1
  | .unary .dec _ => 1
  | .bitOp _ _ _ => 2
  | .nop => 1
  | .ldReg _ _ => 1
  | .ldFromHl _ => 1
  | .ldToHl _ => 1
  | .ldAFrom _ => 1
  | .ldATo _ => 1
  | .alu _ _ => 1
  | .push _ => 1
  | .pop _ => 1
  | .rst _ => 1

theorem encode_form_length (form : Form) : (encode form.instr).length = formLength form := by
  cases form with
  | nop => rfl
  | ldImm r n => cases r <;> rfl
  | ldReg dst r => cases dst <;> cases r <;> rfl
  | ldFromHl dst => cases dst <;> rfl
  | ldToHl r => cases r <;> rfl
  | ldAFrom p => cases p <;> rfl
  | ldATo p => cases p <;> rfl
  | alu fn q => cases fn <;> rcases q with (_ | _ | _ | _ | _ | _ | _) | _ <;> rfl
  | aluImm fn n => cases fn <;> rfl
  | unary fn q => cases fn <;> rcases q with (_ | _ | _ | _ | _ | _ | _) | _ <;> rfl
  | bitOp fn b q => cases fn <;> cases b <;> rcases q with (_ | _ | _ | _ | _ | _ | _) | _ <;> rfl
  | push p => cases p <;> rfl
  | pop p => cases p <;> rfl
  | rst t => cases t <;> rfl

end Sys2Proof.Machine
end

