-- ==== Sys2Proof/Laws/Memory.lean ====
section
/-! SUPPORT. The laws of memory: reading after writing, and that every operation keeps the canonical form. -/

namespace Sys2Proof.Machine

theorem cellAt_of_forall_gt {m : Memory} {a : Nat} (h : ∀ x ∈ m, a < x.1) : Memory.cellAt m a = Memory.unlisted := by
  induction m with
  | nil => rfl
  | cons x m ih =>
    obtain ⟨k, v⟩ := x
    have hk : a < k := h (k, v) (by simp)
    simp only [Memory.cellAt, show ¬ k = a by omega, if_false]
    exact ih (fun y hy => h y (by simp [hy]))

theorem cellAt_putCell_same {m : Memory} (hm : m.wf) (a : Nat) (v : Byte) :
    Memory.cellAt (Memory.putCell m a v) a = v := by
  induction m with
  | nil =>
    by_cases hv : v = Memory.unlisted
    · simp [Memory.putCell, Memory.cellAt, hv]
    · simp [Memory.putCell, Memory.cellAt, hv]
  | cons x m ih =>
    obtain ⟨k, w⟩ := x
    have hs := List.pairwise_cons.mp hm.1
    have ih' := ih ⟨hs.2, fun y hy => hm.2 y (by simp [hy])⟩
    simp only [Memory.putCell]
    split_ifs with h1 h2 h3 h4
    · simp [Memory.cellAt, show ¬ k = a by omega, ih']
    · subst h2
      rw [h3]
      exact cellAt_of_forall_gt (fun y hy => hs.1 y hy)
    · simp [Memory.cellAt]
    · rw [h4]
      apply cellAt_of_forall_gt
      intro y hy
      rcases List.mem_cons.mp hy with rfl | hy
      · show a < k; omega
      · have := hs.1 y hy; simp only at this; omega
    · simp [Memory.cellAt]

theorem cellAt_putCell_other (m : Memory) {a b : Nat} (v : Byte) (hab : b ≠ a) :
    Memory.cellAt (Memory.putCell m a v) b = Memory.cellAt m b := by
  induction m with
  | nil =>
    by_cases hv : v = Memory.unlisted
    · simp [Memory.putCell, hv]
    · simp [Memory.putCell, Memory.cellAt, hv, Ne.symm hab]
  | cons x m ih =>
    obtain ⟨k, w⟩ := x
    simp only [Memory.putCell]
    split_ifs with h1 h2 h3 h4
    · simp [Memory.cellAt, ih]
    · simp [Memory.cellAt, show ¬ k = b by omega]
    · simp [Memory.cellAt, show ¬ k = b by omega, Ne.symm hab]
    · rfl
    · simp [Memory.cellAt, Ne.symm hab]

/-- A cell of the list after a write is the written one or one of before. -/
theorem mem_putCell {m : Memory} {a : Nat} {v : Byte} {x : Host.Cell} (h : x ∈ Memory.putCell m a v) :
    (x = (a, v) ∧ v ≠ Memory.unlisted) ∨ x ∈ m := by
  induction m with
  | nil =>
    simp only [Memory.putCell] at h
    split_ifs at h with hv
    · simp at h
    · left; exact ⟨by simpa using h, hv⟩
  | cons y m ih =>
    obtain ⟨k, w⟩ := y
    simp only [Memory.putCell] at h
    split_ifs at h with h1 h2 h3 h4
    · rcases List.mem_cons.mp h with rfl | h
      · right; simp
      · rcases ih h with h | h
        · exact .inl h
        · right; simp [h]
    · right; simp [h]
    · rcases List.mem_cons.mp h with rfl | h
      · exact .inl ⟨rfl, h3⟩
      · right; simp [h]
    · exact .inr h
    · rcases List.mem_cons.mp h with rfl | h
      · exact .inl ⟨rfl, h4⟩
      · exact .inr h

theorem putCell_wf {m : Memory} (hm : m.wf) {a : Nat} (ha : a < Config.memSize) (v : Byte) : (Memory.putCell m a v).wf := by
  refine ⟨?_, ?_⟩
  · induction m with
    | nil => simp only [Memory.putCell]; split_ifs <;> simp
    | cons y m ih =>
      obtain ⟨k, w⟩ := y
      have hs := List.pairwise_cons.mp hm.1
      have hm' : Memory.wf m := ⟨hs.2, fun y hy => hm.2 y (by simp [hy])⟩
      simp only [Memory.putCell]
      split_ifs with h1 h2 h3 h4
      · refine List.pairwise_cons.mpr ⟨?_, ih hm'⟩
        intro y hy
        rcases mem_putCell hy with ⟨rfl, -⟩ | hy
        · exact h1
        · exact hs.1 y hy
      · exact hs.2
      · subst h2; exact List.pairwise_cons.mpr ⟨hs.1, hs.2⟩
      · exact hm.1
      · refine List.pairwise_cons.mpr ⟨?_, hm.1⟩
        intro y hy
        rcases List.mem_cons.mp hy with rfl | hy
        · show a < k; omega
        · have := hs.1 y hy; show a < y.1; simp only at this; omega
  · intro x hx
    rcases mem_putCell hx with ⟨rfl, hv⟩ | hx
    · exact ⟨ha, hv⟩
    · exact hm.2 x hx

/-! ## Words as addresses -/

@[simp] theorem Memory.read_write_same {m : Memory} (hm : m.wf) (addr : Word) (v : Byte) :
    (m.write addr v).read addr = v := cellAt_putCell_same hm _ _

theorem Memory.read_write_other (m : Memory) {addr other : Word} (v : Byte) (h : other ≠ addr) :
    (m.write addr v).read other = m.read other :=
  cellAt_putCell_other m v (fun h' => h (BitVec.eq_of_toNat_eq h'))

theorem Memory.read_write {m : Memory} (hm : m.wf) (addr other : Word) (v : Byte) :
    (m.write addr v).read other = if other = addr then v else m.read other := by
  split_ifs with h
  · subst h; exact Memory.read_write_same hm _ _
  · exact Memory.read_write_other m v h

theorem Memory.write_wf {m : Memory} (hm : m.wf) (addr : Word) (v : Byte) : (m.write addr v).wf :=
  putCell_wf hm addr.isLt v

theorem Memory.nil_wf : Memory.wf [] := by decide

/-- In a canonical memory the first cell's address is below every other cell's. -/
theorem cellAt_eq_of_mem {m : Memory} (hm : m.wf) {k : Nat} {v : Byte} (h : (k, v) ∈ m) : Memory.cellAt m k = v := by
  induction m with
  | nil => simp at h
  | cons y m ih =>
    obtain ⟨k', w⟩ := y
    have hs := List.pairwise_cons.mp hm.1
    simp only [Memory.cellAt]
    rcases List.mem_cons.mp h with h | h
    · obtain ⟨rfl, rfl⟩ := Prod.mk.inj h; simp
    · have := hs.1 _ h
      simp only at this
      simp only [show ¬ k' = k by omega, if_false]
      exact ih ⟨hs.2, fun y hy => hm.2 y (by simp [hy])⟩ h

end Sys2Proof.Machine
end

