-- ==== Sys2Proof/Laws/Stack.lean ====
section
/-! SUPPORT. What the stack engine and the operand writes do: one lemma for each shared operation. -/

namespace Sys2Proof.Machine

/-- Every byte of a word beside an address one below is another address. -/
theorem sub_one_ne (v : Word) : v - 1 ≠ v := by bv_omega

theorem memRead_memWrite {s : State} (hm : s.mem.wf) (addr other : Word) (v : Byte) :
    (s.memWrite addr v).memRead other = if other = addr then v else s.memRead other := Memory.read_write hm _ _ _

theorem memRead_memWrite_other (s : State) {addr other : Word} (v : Byte) (h : other ≠ addr) :
    (s.memWrite addr v).memRead other = s.memRead other := Memory.read_write_other _ v h

theorem memWrite_wf {s : State} (hm : s.mem.wf) (addr : Word) (v : Byte) : (s.memWrite addr v).mem.wf :=
  Memory.write_wf hm _ _

/-- What `Push16` leaves in memory: the high byte at the old `sp`, the low byte one below, every other byte as it was. -/
theorem memRead_push16 {s : State} (hm : s.mem.wf) (v : Word) (addr : Word) :
    (push16 v s).memRead addr =
      if addr = s.sp - 1 then loByte v else if addr = s.sp then hiByte v else s.memRead addr := by
  rw [State.memRead, push16_mem, Memory.read_write (Memory.write_wf hm _ _), Memory.read_write hm]
  rfl

theorem memRead_push16_other (s : State) (v : Word) {addr : Word} (h0 : addr ≠ s.sp) (h1 : addr ≠ s.sp - 1) :
    (push16 v s).memRead addr = s.memRead addr := by
  rw [State.memRead, push16_mem, Memory.read_write_other _ _ h1, Memory.read_write_other _ _ h0]
  rfl

theorem push16_wf {s : State} (hm : s.mem.wf) (v : Word) : (push16 v s).mem.wf := by
  rw [push16_mem]; exact Memory.write_wf (Memory.write_wf hm _ _) _ _

/-- `Pop16` gives back what `Push16` stored, from any state with that memory and that `sp`. -/
theorem pop16_of_push16 {s t : State} (hm : s.mem.wf) (v : Word) (hmem : t.mem = (push16 v s).mem)
    (hsp : t.sp = s.sp - 2) : (pop16 t).1 = v := by
  have hr : ∀ addr, t.memRead addr = (push16 v s).memRead addr := fun addr => by rw [State.memRead, hmem]; rfl
  have h2 : s.sp - 2 + 2 = s.sp := by bv_omega
  have h1 : s.sp - 2 + 1 = s.sp - 1 := by bv_omega
  rw [pop16_fst, hr, hr, memRead_push16 hm, memRead_push16 hm, hsp, h2, h1, if_pos rfl, if_pos rfl,
    if_neg (Ne.symm (sub_one_ne _)), joinBytes_hiByte_loByte]

theorem Pair.hi_ne_lo (p : Pair) : p.hi ≠ p.lo := by cases p <;> decide

/-- A pair view after its two registers are written. -/
theorem pair_setReg_setReg (s : State) (p : Pair) (hi lo : Byte) :
    ((s.setReg p.hi hi).setReg p.lo lo).pair p = joinBytes hi lo := by
  rw [State.pair, reg_setReg_same, reg_setReg_other _ _ (Pair.hi_ne_lo p), reg_setReg_same]

/-- With `F_WRITE_MASK` at its default, POP writes the popped word to the pair. -/
theorem pop_params (p : Pair) (s : State) : pop params p s = (pop16 s).2.setPair p (pop16 s).1 := by
  have h : ∀ v : Byte, v &&& (0xFF : Byte) = v := fun v => BitVec.and_allOnes
  simp only [pop, params, State.setPair, h, ite_self]

theorem pair_pop_params (p : Pair) (s : State) : (pop params p s).pair p = (pop16 s).1 := by
  rw [pop_params, State.setPair, pair_setReg_setReg, joinBytes_hiByte_loByte]

/-! ## Operand writes -/

/-- Writing an operand keeps memory canonical. -/
theorem writeOperand_wf (o : Operand) (v : Byte) {s : State} (hm : s.mem.wf) : (writeOperand o v s).mem.wf := by
  cases o with
  | reg r => simpa [writeOperand] using hm
  | mem p => exact memWrite_wf hm _ _

/-- Writing an operand changes no program counter, stack pointer or status. -/
theorem writeOperand_control (o : Operand) (v : Byte) (s : State) : SameControl s (writeOperand o v s) := by
  cases o <;> simp [SameControl, writeOperand]

/-- The registers after an operand write. -/
theorem reg_writeOperand (o : Operand) (v : Byte) (s : State) (r : Reg) :
    (writeOperand o v s).reg r = if o = .reg r then v else s.reg r := by
  cases o with
  | reg q => simp only [writeOperand, reg_setReg, Operand.reg.injEq, eq_comm]
  | mem p => simp [writeOperand]

/-- A memory byte outside a memory operand is as it was. -/
theorem memRead_writeOperand_other (o : Operand) (v : Byte) (s : State) {addr : Word} (h : ∀ p, o = .mem p → addr ≠ s.pair p) :
    (writeOperand o v s).memRead addr = s.memRead addr := by
  cases o with
  | reg q => simp [writeOperand]
  | mem p => exact memRead_memWrite_other s v (h p rfl)

end Sys2Proof.Machine
end

