-- ==== Sys2Proof/Laws/Step.lean ====
section
/-! SUPPORT. The step: what it fetches, and the four things it can do. -/

namespace Sys2Proof.Machine

theorem step_faulted {s : State} {r : FaultRecord} (h : s.status = .faulted r) : step s = .next s := by
  simp [step, h]

theorem step_running {s : State} (h : s.status = .running) : step s = exec (fetchInstr s).1 (fetchInstr s).2 := by
  simp [step, h]

/-- What is fetched: the instruction of the two bytes at `pc`, whatever the second is where none is asked for. -/
theorem fetchInstr_fst (s : State) : (fetchInstr s).1 = decodeBytes (s.memRead s.pc) (s.memRead (s.pc + 1)) := by
  by_cases h : hasSecondByte (fetch8 s).1 = true
  · simp only [fetchInstr, if_pos h]; rfl
  · simp only [fetchInstr, if_neg h]
    exact decodeBytes_second _ _ _ (by simpa using h)

/-- Fetching changes `pc` only. -/
theorem fetchInstr_snd (s : State) :
    (fetchInstr s).2 = { s with pc := s.pc + if hasSecondByte (s.memRead s.pc) then 2 else 1 } := by
  by_cases h : hasSecondByte (fetch8 s).1 = true
  · simp only [fetchInstr, if_pos h]; rw [if_pos (show hasSecondByte (s.memRead s.pc) = true from h)]
    simp only [fetch8, addrNext_eq, BitVec.add_assoc]; rfl
  · simp only [fetchInstr, if_neg h]; rw [if_neg (show ¬ hasSecondByte (s.memRead s.pc) = true from h)]; rfl

theorem encode_fetchInstr_length (s : State) :
    (encode (fetchInstr s).1).length = if hasSecondByte (s.memRead s.pc) then 2 else 1 := by
  rw [fetchInstr_fst, encode_decodeBytes_length]

/-- The rows without a form fault, and only they do: every instruction a step can fetch is the instruction of a form, or its
meaning is one of the three faults. -/
theorem exec_decodePrimary_cases (op x : Byte) (hop : op ≠ 0xCB) :
    (∃ form, (decodePrimary op x).form = some form) ∨
    (op ∈ unimplementedPrimarySet ∧ hasSecondByte op = false ∧
      ∀ s, exec (decodePrimary op x) s = .next (unimplementedPrimary op s)) ∨
    (op ∈ invalidSet ∧ hasSecondByte op = false ∧ ∀ s, exec (decodePrimary op x) s = .next (invalidPrimary op s)) := by
  revert hop
  refine byte_cases (P := fun op => op ≠ 0xCB →
    (∃ form, (decodePrimary op x).form = some form) ∨
    (op ∈ unimplementedPrimarySet ∧ hasSecondByte op = false ∧
      ∀ s, exec (decodePrimary op x) s = .next (unimplementedPrimary op s)) ∨
    (op ∈ invalidSet ∧ hasSecondByte op = false ∧ ∀ s, exec (decodePrimary op x) s = .next (invalidPrimary op s)))
    (fun n hn => ?_) op
  interval_cases n <;> intro hop <;>
    first
    | exact Or.inl ⟨_, rfl⟩
    | exact Or.inr (Or.inl ⟨by decide, rfl, fun _ => rfl⟩)
    | exact Or.inr (Or.inr ⟨by decide, rfl, fun _ => rfl⟩)
    | exact absurd rfl hop

theorem exec_decodeExtended_cases (sel : Byte) :
    (∃ form, (decodeExtended sel).form = some form) ∨
    (unimplementedSelector sel = true ∧ ∀ s, exec (decodeExtended sel) s = .next (unimplementedExtended sel s)) := by
  refine byte_cases (P := fun sel => (∃ form, (decodeExtended sel).form = some form) ∨
    (unimplementedSelector sel = true ∧ ∀ s, exec (decodeExtended sel) s = .next (unimplementedExtended sel s)))
    (fun n hn => ?_) sel
  interval_cases n <;> first | exact Or.inl ⟨_, rfl⟩ | exact Or.inr ⟨rfl, fun _ => rfl⟩

/-- The inversion of a running step: it performs a form in the state past the instruction, or takes one of three faults. -/
theorem step_cases {s t : State} (hr : s.status = .running) (h : step s = .next t) :
    (∃ form, (fetchInstr s).1 = form.instr ∧ t = perform form (fetchInstr s).2) ∨
    (s.memRead s.pc ∈ unimplementedPrimarySet ∧
      t = { s with pc := s.pc + 1, status := .faulted ⟨.notImplemented, s.memRead s.pc, s.pc, false⟩ }) ∨
    (s.memRead s.pc ∈ invalidSet ∧
      t = { s with pc := s.pc + 1, status := .faulted ⟨.invalidOpcode, s.memRead s.pc, s.pc, false⟩ }) ∨
    (s.memRead s.pc = 0xCB ∧ unimplementedSelector (s.memRead (s.pc + 1)) = true ∧
      t = { s with pc := s.pc + 2, status := .faulted ⟨.notImplemented, s.memRead (s.pc + 1), s.pc + 1, true⟩ }) := by
  rw [step_running hr] at h
  have hf := fetchInstr_fst s
  have hs := fetchInstr_snd s
  have key : ∀ form, (fetchInstr s).1.form = some form →
      ∃ form, (fetchInstr s).1 = form.instr ∧ t = perform form (fetchInstr s).2 := by
    intro form hform
    have hi := instr_of_form hform
    rw [← hi, exec_form] at h
    exact ⟨form, hi.symm, by simpa using h.symm⟩
  by_cases hop : s.memRead s.pc = 0xCB
  · have hd : (fetchInstr s).1 = decodeExtended (s.memRead (s.pc + 1)) := by rw [hf, hop]; rfl
    rcases exec_decodeExtended_cases (s.memRead (s.pc + 1)) with ⟨form, hform⟩ | ⟨hsel, he⟩
    · exact Or.inl (key form (by rw [hd]; exact hform))
    · right; right; right
      refine ⟨hop, hsel, ?_⟩
      rw [hd, he, hs, hop] at h
      have : s.pc + 2 - 1 = s.pc + 1 := by bv_omega
      have h2 : hasSecondByte 0xCB = true := rfl
      simp only [h2, if_true, unimplementedExtended, raiseFault, this, Host.Outcome.next.injEq] at h
      exact h.symm
  · have hd : (fetchInstr s).1 = decodePrimary (s.memRead s.pc) (s.memRead (s.pc + 1)) := by
      rw [hf]; exact if_neg hop
    rcases exec_decodePrimary_cases (s.memRead s.pc) (s.memRead (s.pc + 1)) hop with ⟨form, hform⟩ | ⟨hm, hb, he⟩ | ⟨hm, hb, he⟩
    · exact Or.inl (key form (by rw [hd]; exact hform))
    all_goals
      rw [hd, he, hs, hb] at h
      have : s.pc + 1 - 1 = s.pc := by bv_omega
      simp only [Bool.false_eq_true, if_false, unimplementedPrimary, invalidPrimary, raiseFault, this,
        Host.Outcome.next.injEq] at h
    · exact Or.inr (Or.inl ⟨hm, h.symm⟩)
    · exact Or.inr (Or.inr (Or.inl ⟨hm, h.symm⟩))

/-! ## What a form keeps -/

theorem slotOperand_ne_f (q : Slot) : slotOperand q ≠ .reg .f := by
  rcases q with (_ | _ | _ | _ | _ | _ | _) | _ <;> simp [slotOperand, GReg.toReg]

theorem executeBinary_mem (cfg : Params) (fn : AluFn) (b : Byte) (s : State) : (executeBinary cfg fn b s).mem = s.mem := by
  cases fn <;> rfl

/-- Every form keeps memory in canonical form. -/
theorem perform_wf {s : State} (hm : s.mem.wf) (form : Form) : (perform form s).mem.wf := by
  cases form with
  | nop => exact hm
  | ldImm r n => simpa [perform, loadImmediate] using hm
  | ldReg dst r => exact writeOperand_wf _ _ hm
  | ldFromHl dst => exact writeOperand_wf _ _ hm
  | ldToHl r => exact writeOperand_wf _ _ hm
  | ldAFrom p => exact writeOperand_wf _ _ hm
  | ldATo p => exact writeOperand_wf _ _ hm
  | alu fn q => show (executeBinary params fn _ s).mem.wf; rw [executeBinary_mem]; exact hm
  | aluImm fn n => show (executeBinary params fn _ s).mem.wf; rw [executeBinary_mem]; exact hm
  | unary fn q => simp only [perform, executeUnary_eq _ _ _ (slotOperand_ne_f q)]; exact writeOperand_wf _ _ hm
  | bitOp fn b q =>
    cases fn with
    | test => exact hm
    | reset => exact writeOperand_wf _ _ hm
    | set => exact writeOperand_wf _ _ hm
  | push p => exact push16_wf hm _
  | pop p => simp only [perform, pop_params, State.setPair]; simpa using hm
  | rst t => exact push16_wf (s := s) hm _

/-! ## Placing a word -/

/-- What `placeAtPc` places is what the next step fetches and runs. -/
theorem step_placeAtPc {s : State} (hm : s.mem.wf) (first second : Byte) :
    (fetchInstr (placeAtPc first second s)).1 = decodeBytes first second ∧
    step (placeAtPc first second s) = exec (decodeBytes first second) (fetchInstr (placeAtPc first second s)).2 := by
  have hw := memWrite_wf hm s.pc first
  have h1 : (placeAtPc first second s).memRead s.pc = first := by
    show ((s.memWrite s.pc first).memWrite (s.pc + 1) second).memRead s.pc = first
    rw [memRead_memWrite hw, memRead_memWrite hm, if_neg (by bv_omega), if_pos rfl]
  have h2 : (placeAtPc first second s).memRead (s.pc + 1) = second := by
    show ((s.memWrite s.pc first).memWrite (s.pc + 1) second).memRead (s.pc + 1) = second
    rw [memRead_memWrite hw, if_pos rfl]
  have hf : (fetchInstr (placeAtPc first second s)).1 = decodeBytes first second := by
    rw [fetchInstr_fst]
    exact congrArg₂ decodeBytes h1 h2
  exact ⟨hf, by rw [step_running rfl, hf]⟩

end Sys2Proof.Machine
end

