-- ==== Sys2Proof/Laws/Host.lean ====
section
/-! SUPPORT. What the host's operations do: the copy of an image, and the transactions of a trace in sequence. -/

namespace Sys2Proof.Machine

/-- Copying changes nothing but memory. -/
theorem copyBytes_rest (cfg : Params) :
    ∀ (buf : List Byte) (base : Word) (s : State), { copyBytes cfg buf base s with mem := s.mem } = s
  | [], _, _ => rfl
  | v :: rest, base, s => by
    have ih := copyBytes_rest cfg rest (addrNext cfg base) (s.memWrite base v)
    calc ({ copyBytes cfg (v :: rest) base s with mem := s.mem } : State)
        = { ({ copyBytes cfg rest (addrNext cfg base) (s.memWrite base v) with mem := (s.memWrite base v).mem } : State) with
            mem := s.mem } := rfl
      _ = { s.memWrite base v with mem := s.mem } := by rw [ih]
      _ = s := rfl

theorem copyBytes_wf (cfg : Params) :
    ∀ (buf : List Byte) (base : Word) {s : State}, s.mem.wf → (copyBytes cfg buf base s).mem.wf
  | [], _, _, h => h
  | _ :: rest, _, _, h => copyBytes_wf cfg rest _ (memWrite_wf h _ _)

/-- An address outside the copied range, counted from its base, reads as before. -/
theorem memRead_copyBytes_other (cfg : Params) : ∀ (buf : List Byte) (base : Word) (s : State) (addr : Word),
    buf.length ≤ (addr - base).toNat → (copyBytes cfg buf base s).memRead addr = s.memRead addr
  | [], _, _, _, _ => rfl
  | v :: rest, base, s, addr, ha => by
    simp only [List.length_cons] at ha
    have hne : addr ≠ base := fun h => by subst h; simp at ha
    rw [copyBytes, addrNext_eq, memRead_copyBytes_other cfg rest (base + 1) _ _ (by bv_omega), memRead_memWrite_other _ _ hne]

/-- Byte `k` of a buffer that fits in memory stands `k` addresses after the base. -/
theorem memRead_copyBytes (cfg : Params) : ∀ (buf : List Byte) (base : Word) (s : State) (k : Nat) (v : Byte), s.mem.wf →
    buf.length ≤ 65536 → buf[k]? = some v → (copyBytes cfg buf base s).memRead (base + BitVec.ofNat 16 k) = v
  | [], _, _, _, _, _, _, h => by simp at h
  | w :: rest, base, s, 0, v, hm, hl, h => by
    simp only [List.length_cons] at hl
    simp only [List.getElem?_cons_zero, Option.some.injEq] at h
    rw [copyBytes, addrNext_eq, memRead_copyBytes_other cfg rest _ _ _ (by bv_omega), memRead_memWrite hm, if_pos (by simp), h]
  | w :: rest, base, s, k + 1, v, hm, hl, h => by
    simp only [List.length_cons] at hl
    simp only [List.getElem?_cons_succ] at h
    rw [copyBytes, addrNext_eq, show base + BitVec.ofNat 16 (k + 1) = base + 1 + BitVec.ofNat 16 k by bv_omega]
    exact memRead_copyBytes cfg rest (base + 1) _ k v (memWrite_wf hm _ _) (by omega) h

/-- A trace run in sequence: the writes. -/
theorem applyWrites_append (xs ys : List BusOp) (m : Memory) :
    applyWrites (xs ++ ys) m = applyWrites ys (applyWrites xs m) := by
  induction xs generalizing m with
  | nil => rfl
  | cons x xs ih => cases x <;> exact ih _

/-- A trace run in sequence: the reads. -/
theorem readsAgree_append (xs ys : List BusOp) (m : Memory) :
    readsAgree (xs ++ ys) m ↔ readsAgree xs m ∧ readsAgree ys (applyWrites xs m) := by
  induction xs generalizing m with
  | nil => simp [readsAgree, applyWrites]
  | cons x xs ih => cases x <;> simp [readsAgree, applyWrites, ih, and_assoc]

/-- The transactions of a running step: its fetches, then those of its form. -/
theorem stepTrace_running {s : State} (h : s.status = .running) : stepTrace s =
    match (fetchInstr s).1.form with
    | some form => fetchTrace s ++ dataTrace form (fetchInstr s).2
    | none => fetchTrace s := by
  rw [stepTrace, h] <;> rfl

/-- The fetches of a step write nothing and carry what memory holds. -/
theorem fetchTrace_spec (s : State) : applyWrites (fetchTrace s) s.mem = s.mem ∧ readsAgree (fetchTrace s) s.mem ∧
    (fetchTrace s).length = if hasSecondByte (s.memRead s.pc) then 2 else 1 := by
  simp only [fetchTrace]
  split_ifs <;> simp [applyWrites, readsAgree, State.memRead]

end Sys2Proof.Machine
end

