-- ==== Sys2Proof/Tests/Slice0.lean ====
section
/-! SUPPORT. The model's own tests: the decoding of every row from a word written out from the spec's encoding, the WellFormed smoke
test, single steps with the values of spec/95_test_vectors.md, and for each statement with hypotheses a witness that meets
them. -/

namespace Sys2Proof.Tests

open Sys2Proof Sys2Proof.Machine

/-! ## Well-formedness -/

theorem test_prefix_alone_refused : (Instr.prefixCb 0x37).wellFormed = false := by decide
theorem test_extended_row_accepted : Instr.swapA.wellFormed = true := by decide
theorem test_immediate_accepted : (Instr.ldBN 0xFF).wellFormed = true := by decide

/-! ## Decoding, row by row of the two opcode maps (30_encoding.md R89, R92). The bytes are the rows' encodings in bits; the second
byte is 0x5A. The byte 0xCB is tested with the extended page. -/

theorem test_decode_primary_0 :
    ([0b00000000, 0b00000001, 0b00000010, 0b00000011, 0b00000100, 0b00000101, 0b00000110, 0b00000111,
      0b00001000, 0b00001001, 0b00001010, 0b00001011, 0b00001100, 0b00001101, 0b00001110, 0b00001111] : List Byte).map (fun op => decodeBytes op 0x5A) =
    [.nop, .unimplLdBcNn, .ldMemBcA, .unimplIncBc, .incB, .decB, .ldBN 0x5A, .unimplRlca,
      .unimplLdMemNnSp, .unimplAddHlBc, .ldAMemBc, .unimplDecBc, .incC, .decC, .ldCN 0x5A, .unimplRrca] := by decide

theorem test_decode_primary_1 :
    ([0b00010000, 0b00010001, 0b00010010, 0b00010011, 0b00010100, 0b00010101, 0b00010110, 0b00010111,
      0b00011000, 0b00011001, 0b00011010, 0b00011011, 0b00011100, 0b00011101, 0b00011110, 0b00011111] : List Byte).map (fun op => decodeBytes op 0x5A) =
    [.unimplStop, .unimplLdDeNn, .ldMemDeA, .unimplIncDe, .incD, .decD, .ldDN 0x5A, .unimplRla,
      .unimplJrE, .unimplAddHlDe, .ldAMemDe, .unimplDecDe, .incE, .decE, .ldEN 0x5A, .unimplRra] := by decide

theorem test_decode_primary_2 :
    ([0b00100000, 0b00100001, 0b00100010, 0b00100011, 0b00100100, 0b00100101, 0b00100110, 0b00100111,
      0b00101000, 0b00101001, 0b00101010, 0b00101011, 0b00101100, 0b00101101, 0b00101110, 0b00101111] : List Byte).map (fun op => decodeBytes op 0x5A) =
    [.unimplJrNzE, .unimplLdHlNn, .unimplLdMemHlIncA, .unimplIncHl, .incH, .decH, .ldHN 0x5A, .unimplDaa,
      .unimplJrZE, .unimplAddHlHl, .unimplLdAMemHlInc, .unimplDecHl, .incL, .decL, .ldLN 0x5A, .unimplCpl] := by decide

theorem test_decode_primary_3 :
    ([0b00110000, 0b00110001, 0b00110010, 0b00110011, 0b00110100, 0b00110101, 0b00110110, 0b00110111,
      0b00111000, 0b00111001, 0b00111010, 0b00111011, 0b00111100, 0b00111101, 0b00111110, 0b00111111] : List Byte).map (fun op => decodeBytes op 0x5A) =
    [.unimplJrNcE, .unimplLdSpNn, .unimplLdMemHlDecA, .unimplIncSp, .incMemHl, .decMemHl, .unimplLdMemHlN, .unimplScf,
      .unimplJrCE, .unimplAddHlSp, .unimplLdAMemHlDec, .unimplDecSp, .incA, .decA, .ldAN 0x5A, .unimplCcf] := by decide

theorem test_decode_primary_4 :
    ([0b01000000, 0b01000001, 0b01000010, 0b01000011, 0b01000100, 0b01000101, 0b01000110, 0b01000111,
      0b01001000, 0b01001001, 0b01001010, 0b01001011, 0b01001100, 0b01001101, 0b01001110, 0b01001111] : List Byte).map (fun op => decodeBytes op 0x5A) =
    [.ldBB, .ldBC, .ldBD, .ldBE, .ldBH, .ldBL, .ldBMemHl, .ldBA,
      .ldCB, .ldCC, .ldCD, .ldCE, .ldCH, .ldCL, .ldCMemHl, .ldCA] := by decide

theorem test_decode_primary_5 :
    ([0b01010000, 0b01010001, 0b01010010, 0b01010011, 0b01010100, 0b01010101, 0b01010110, 0b01010111,
      0b01011000, 0b01011001, 0b01011010, 0b01011011, 0b01011100, 0b01011101, 0b01011110, 0b01011111] : List Byte).map (fun op => decodeBytes op 0x5A) =
    [.ldDB, .ldDC, .ldDD, .ldDE, .ldDH, .ldDL, .ldDMemHl, .ldDA,
      .ldEB, .ldEC, .ldED, .ldEE, .ldEH, .ldEL, .ldEMemHl, .ldEA] := by decide

theorem test_decode_primary_6 :
    ([0b01100000, 0b01100001, 0b01100010, 0b01100011, 0b01100100, 0b01100101, 0b01100110, 0b01100111,
      0b01101000, 0b01101001, 0b01101010, 0b01101011, 0b01101100, 0b01101101, 0b01101110, 0b01101111] : List Byte).map (fun op => decodeBytes op 0x5A) =
    [.ldHB, .ldHC, .ldHD, .ldHE, .ldHH, .ldHL, .ldHMemHl, .ldHA,
      .ldLB, .ldLC, .ldLD, .ldLE, .ldLH, .ldLL, .ldLMemHl, .ldLA] := by decide

theorem test_decode_primary_7 :
    ([0b01110000, 0b01110001, 0b01110010, 0b01110011, 0b01110100, 0b01110101, 0b01110110, 0b01110111,
      0b01111000, 0b01111001, 0b01111010, 0b01111011, 0b01111100, 0b01111101, 0b01111110, 0b01111111] : List Byte).map (fun op => decodeBytes op 0x5A) =
    [.ldMemHlB, .ldMemHlC, .ldMemHlD, .ldMemHlE, .ldMemHlH, .ldMemHlL, .unimplHalt, .ldMemHlA,
      .ldAB, .ldAC, .ldAD, .ldAE, .ldAH, .ldAL, .ldAMemHl, .ldAA] := by decide

theorem test_decode_primary_8 :
    ([0b10000000, 0b10000001, 0b10000010, 0b10000011, 0b10000100, 0b10000101, 0b10000110, 0b10000111,
      0b10001000, 0b10001001, 0b10001010, 0b10001011, 0b10001100, 0b10001101, 0b10001110, 0b10001111] : List Byte).map (fun op => decodeBytes op 0x5A) =
    [.addAB, .addAC, .addAD, .addAE, .addAH, .addAL, .addAMemHl, .addAA,
      .adcAB, .adcAC, .adcAD, .adcAE, .adcAH, .adcAL, .adcAMemHl, .adcAA] := by decide

theorem test_decode_primary_9 :
    ([0b10010000, 0b10010001, 0b10010010, 0b10010011, 0b10010100, 0b10010101, 0b10010110, 0b10010111,
      0b10011000, 0b10011001, 0b10011010, 0b10011011, 0b10011100, 0b10011101, 0b10011110, 0b10011111] : List Byte).map (fun op => decodeBytes op 0x5A) =
    [.subAB, .subAC, .subAD, .subAE, .subAH, .subAL, .subAMemHl, .subAA,
      .sbcAB, .sbcAC, .sbcAD, .sbcAE, .sbcAH, .sbcAL, .sbcAMemHl, .sbcAA] := by decide

theorem test_decode_primary_A :
    ([0b10100000, 0b10100001, 0b10100010, 0b10100011, 0b10100100, 0b10100101, 0b10100110, 0b10100111,
      0b10101000, 0b10101001, 0b10101010, 0b10101011, 0b10101100, 0b10101101, 0b10101110, 0b10101111] : List Byte).map (fun op => decodeBytes op 0x5A) =
    [.andAB, .andAC, .andAD, .andAE, .andAH, .andAL, .andAMemHl, .andAA,
      .xorAB, .xorAC, .xorAD, .xorAE, .xorAH, .xorAL, .xorAMemHl, .xorAA] := by decide

theorem test_decode_primary_B :
    ([0b10110000, 0b10110001, 0b10110010, 0b10110011, 0b10110100, 0b10110101, 0b10110110, 0b10110111,
      0b10111000, 0b10111001, 0b10111010, 0b10111011, 0b10111100, 0b10111101, 0b10111110, 0b10111111] : List Byte).map (fun op => decodeBytes op 0x5A) =
    [.orAB, .orAC, .orAD, .orAE, .orAH, .orAL, .orAMemHl, .orAA,
      .unimplCpB, .unimplCpC, .unimplCpD, .unimplCpE, .unimplCpH, .unimplCpL, .unimplCpMemHl, .unimplCpA] := by decide

theorem test_decode_primary_C :
    ([0b11000000, 0b11000001, 0b11000010, 0b11000011, 0b11000100, 0b11000101, 0b11000110, 0b11000111,
      0b11001000, 0b11001001, 0b11001010, 0b11001100, 0b11001101, 0b11001110, 0b11001111] : List Byte).map (fun op => decodeBytes op 0x5A) =
    [.unimplRetNz, .popBc, .unimplJpNzNn, .unimplJpNn, .unimplCallNzNn, .pushBc, .addAN 0x5A, .rst00,
      .unimplRetZ, .unimplRet, .unimplJpZNn, .unimplCallZNn, .unimplCallNn, .adcAN 0x5A, .rst08] := by decide

theorem test_decode_primary_D :
    ([0b11010000, 0b11010001, 0b11010010, 0b11010011, 0b11010100, 0b11010101, 0b11010110, 0b11010111,
      0b11011000, 0b11011001, 0b11011010, 0b11011011, 0b11011100, 0b11011101, 0b11011110, 0b11011111] : List Byte).map (fun op => decodeBytes op 0x5A) =
    [.unimplRetNc, .popDe, .unimplJpNcNn, .invalidD3, .unimplCallNcNn, .pushDe, .subAN 0x5A, .rst10,
      .unimplRetC, .unimplReti, .unimplJpCNn, .invalidDB, .unimplCallCNn, .invalidDD, .sbcAN 0x5A, .rst18] := by decide

theorem test_decode_primary_E :
    ([0b11100000, 0b11100001, 0b11100010, 0b11100011, 0b11100100, 0b11100101, 0b11100110, 0b11100111,
      0b11101000, 0b11101001, 0b11101010, 0b11101011, 0b11101100, 0b11101101, 0b11101110, 0b11101111] : List Byte).map (fun op => decodeBytes op 0x5A) =
    [.unimplLdhMemNA, .popHl, .unimplLdMemCA, .invalidE3, .invalidE4, .pushHl, .andAN 0x5A, .rst20,
      .unimplAddSpE, .unimplJpHl, .unimplLdMemNnA, .invalidEB, .invalidEC, .invalidED, .xorAN 0x5A, .rst28] := by decide

theorem test_decode_primary_F :
    ([0b11110000, 0b11110001, 0b11110010, 0b11110011, 0b11110100, 0b11110101, 0b11110110, 0b11110111,
      0b11111000, 0b11111001, 0b11111010, 0b11111011, 0b11111100, 0b11111101, 0b11111110, 0b11111111] : List Byte).map (fun op => decodeBytes op 0x5A) =
    [.unimplLdhAMemN, .popAf, .unimplLdAMemC, .unimplDi, .invalidF4, .pushAf, .orAN 0x5A, .rst30,
      .unimplLdHlSpPlusE, .unimplLdSpHl, .unimplLdAMemNn, .unimplEi, .invalidFC, .invalidFD, .unimplCpN, .rst38] := by decide

theorem test_decode_extended_0 :
    ([0b00000000, 0b00000001, 0b00000010, 0b00000011, 0b00000100, 0b00000101, 0b00000110, 0b00000111,
      0b00001000, 0b00001001, 0b00001010, 0b00001011, 0b00001100, 0b00001101, 0b00001110, 0b00001111] : List Byte).map (decodeBytes 0b11001011) =
    [.unimplRlcB, .unimplRlcC, .unimplRlcD, .unimplRlcE, .unimplRlcH, .unimplRlcL, .unimplRlcMemHl, .unimplRlcA,
      .unimplRrcB, .unimplRrcC, .unimplRrcD, .unimplRrcE, .unimplRrcH, .unimplRrcL, .unimplRrcMemHl, .unimplRrcA] := by decide

theorem test_decode_extended_1 :
    ([0b00010000, 0b00010001, 0b00010010, 0b00010011, 0b00010100, 0b00010101, 0b00010110, 0b00010111,
      0b00011000, 0b00011001, 0b00011010, 0b00011011, 0b00011100, 0b00011101, 0b00011110, 0b00011111] : List Byte).map (decodeBytes 0b11001011) =
    [.unimplRlB, .unimplRlC, .unimplRlD, .unimplRlE, .unimplRlH, .unimplRlL, .unimplRlMemHl, .unimplRlA,
      .unimplRrB, .unimplRrC, .unimplRrD, .unimplRrE, .unimplRrH, .unimplRrL, .unimplRrMemHl, .unimplRrA] := by decide

theorem test_decode_extended_2 :
    ([0b00100000, 0b00100001, 0b00100010, 0b00100011, 0b00100100, 0b00100101, 0b00100110, 0b00100111,
      0b00101000, 0b00101001, 0b00101010, 0b00101011, 0b00101100, 0b00101101, 0b00101110, 0b00101111] : List Byte).map (decodeBytes 0b11001011) =
    [.unimplSlaB, .unimplSlaC, .unimplSlaD, .unimplSlaE, .unimplSlaH, .unimplSlaL, .unimplSlaMemHl, .unimplSlaA,
      .unimplSraB, .unimplSraC, .unimplSraD, .unimplSraE, .unimplSraH, .unimplSraL, .unimplSraMemHl, .unimplSraA] := by decide

theorem test_decode_extended_3 :
    ([0b00110000, 0b00110001, 0b00110010, 0b00110011, 0b00110100, 0b00110101, 0b00110110, 0b00110111,
      0b00111000, 0b00111001, 0b00111010, 0b00111011, 0b00111100, 0b00111101, 0b00111110, 0b00111111] : List Byte).map (decodeBytes 0b11001011) =
    [.swapB, .swapC, .swapD, .swapE, .swapH, .swapL, .swapMemHl, .swapA,
      .unimplSrlB, .unimplSrlC, .unimplSrlD, .unimplSrlE, .unimplSrlH, .unimplSrlL, .unimplSrlMemHl, .unimplSrlA] := by decide

theorem test_decode_extended_4 :
    ([0b01000000, 0b01000001, 0b01000010, 0b01000011, 0b01000100, 0b01000101, 0b01000110, 0b01000111,
      0b01001000, 0b01001001, 0b01001010, 0b01001011, 0b01001100, 0b01001101, 0b01001110, 0b01001111] : List Byte).map (decodeBytes 0b11001011) =
    [.bit0B, .bit0C, .bit0D, .bit0E, .bit0H, .bit0L, .bit0MemHl, .bit0A,
      .bit1B, .bit1C, .bit1D, .bit1E, .bit1H, .bit1L, .bit1MemHl, .bit1A] := by decide

theorem test_decode_extended_5 :
    ([0b01010000, 0b01010001, 0b01010010, 0b01010011, 0b01010100, 0b01010101, 0b01010110, 0b01010111,
      0b01011000, 0b01011001, 0b01011010, 0b01011011, 0b01011100, 0b01011101, 0b01011110, 0b01011111] : List Byte).map (decodeBytes 0b11001011) =
    [.bit2B, .bit2C, .bit2D, .bit2E, .bit2H, .bit2L, .bit2MemHl, .bit2A,
      .bit3B, .bit3C, .bit3D, .bit3E, .bit3H, .bit3L, .bit3MemHl, .bit3A] := by decide

theorem test_decode_extended_6 :
    ([0b01100000, 0b01100001, 0b01100010, 0b01100011, 0b01100100, 0b01100101, 0b01100110, 0b01100111,
      0b01101000, 0b01101001, 0b01101010, 0b01101011, 0b01101100, 0b01101101, 0b01101110, 0b01101111] : List Byte).map (decodeBytes 0b11001011) =
    [.bit4B, .bit4C, .bit4D, .bit4E, .bit4H, .bit4L, .bit4MemHl, .bit4A,
      .bit5B, .bit5C, .bit5D, .bit5E, .bit5H, .bit5L, .bit5MemHl, .bit5A] := by decide

theorem test_decode_extended_7 :
    ([0b01110000, 0b01110001, 0b01110010, 0b01110011, 0b01110100, 0b01110101, 0b01110110, 0b01110111,
      0b01111000, 0b01111001, 0b01111010, 0b01111011, 0b01111100, 0b01111101, 0b01111110, 0b01111111] : List Byte).map (decodeBytes 0b11001011) =
    [.bit6B, .bit6C, .bit6D, .bit6E, .bit6H, .bit6L, .bit6MemHl, .bit6A,
      .bit7B, .bit7C, .bit7D, .bit7E, .bit7H, .bit7L, .bit7MemHl, .bit7A] := by decide

theorem test_decode_extended_8 :
    ([0b10000000, 0b10000001, 0b10000010, 0b10000011, 0b10000100, 0b10000101, 0b10000110, 0b10000111,
      0b10001000, 0b10001001, 0b10001010, 0b10001011, 0b10001100, 0b10001101, 0b10001110, 0b10001111] : List Byte).map (decodeBytes 0b11001011) =
    [.res0B, .res0C, .res0D, .res0E, .res0H, .res0L, .res0MemHl, .res0A,
      .res1B, .res1C, .res1D, .res1E, .res1H, .res1L, .res1MemHl, .res1A] := by decide

theorem test_decode_extended_9 :
    ([0b10010000, 0b10010001, 0b10010010, 0b10010011, 0b10010100, 0b10010101, 0b10010110, 0b10010111,
      0b10011000, 0b10011001, 0b10011010, 0b10011011, 0b10011100, 0b10011101, 0b10011110, 0b10011111] : List Byte).map (decodeBytes 0b11001011) =
    [.res2B, .res2C, .res2D, .res2E, .res2H, .res2L, .res2MemHl, .res2A,
      .res3B, .res3C, .res3D, .res3E, .res3H, .res3L, .res3MemHl, .res3A] := by decide

theorem test_decode_extended_A :
    ([0b10100000, 0b10100001, 0b10100010, 0b10100011, 0b10100100, 0b10100101, 0b10100110, 0b10100111,
      0b10101000, 0b10101001, 0b10101010, 0b10101011, 0b10101100, 0b10101101, 0b10101110, 0b10101111] : List Byte).map (decodeBytes 0b11001011) =
    [.res4B, .res4C, .res4D, .res4E, .res4H, .res4L, .res4MemHl, .res4A,
      .res5B, .res5C, .res5D, .res5E, .res5H, .res5L, .res5MemHl, .res5A] := by decide

theorem test_decode_extended_B :
    ([0b10110000, 0b10110001, 0b10110010, 0b10110011, 0b10110100, 0b10110101, 0b10110110, 0b10110111,
      0b10111000, 0b10111001, 0b10111010, 0b10111011, 0b10111100, 0b10111101, 0b10111110, 0b10111111] : List Byte).map (decodeBytes 0b11001011) =
    [.res6B, .res6C, .res6D, .res6E, .res6H, .res6L, .res6MemHl, .res6A,
      .res7B, .res7C, .res7D, .res7E, .res7H, .res7L, .res7MemHl, .res7A] := by decide

theorem test_decode_extended_C :
    ([0b11000000, 0b11000001, 0b11000010, 0b11000011, 0b11000100, 0b11000101, 0b11000110, 0b11000111,
      0b11001000, 0b11001001, 0b11001010, 0b11001011, 0b11001100, 0b11001101, 0b11001110, 0b11001111] : List Byte).map (decodeBytes 0b11001011) =
    [.set0B, .set0C, .set0D, .set0E, .set0H, .set0L, .set0MemHl, .set0A,
      .set1B, .set1C, .set1D, .set1E, .set1H, .set1L, .set1MemHl, .set1A] := by decide

theorem test_decode_extended_D :
    ([0b11010000, 0b11010001, 0b11010010, 0b11010011, 0b11010100, 0b11010101, 0b11010110, 0b11010111,
      0b11011000, 0b11011001, 0b11011010, 0b11011011, 0b11011100, 0b11011101, 0b11011110, 0b11011111] : List Byte).map (decodeBytes 0b11001011) =
    [.set2B, .set2C, .set2D, .set2E, .set2H, .set2L, .set2MemHl, .set2A,
      .set3B, .set3C, .set3D, .set3E, .set3H, .set3L, .set3MemHl, .set3A] := by decide

theorem test_decode_extended_E :
    ([0b11100000, 0b11100001, 0b11100010, 0b11100011, 0b11100100, 0b11100101, 0b11100110, 0b11100111,
      0b11101000, 0b11101001, 0b11101010, 0b11101011, 0b11101100, 0b11101101, 0b11101110, 0b11101111] : List Byte).map (decodeBytes 0b11001011) =
    [.set4B, .set4C, .set4D, .set4E, .set4H, .set4L, .set4MemHl, .set4A,
      .set5B, .set5C, .set5D, .set5E, .set5H, .set5L, .set5MemHl, .set5A] := by decide

theorem test_decode_extended_F :
    ([0b11110000, 0b11110001, 0b11110010, 0b11110011, 0b11110100, 0b11110101, 0b11110110, 0b11110111,
      0b11111000, 0b11111001, 0b11111010, 0b11111011, 0b11111100, 0b11111101, 0b11111110, 0b11111111] : List Byte).map (decodeBytes 0b11001011) =
    [.set6B, .set6C, .set6D, .set6E, .set6H, .set6L, .set6MemHl, .set6A,
      .set7B, .set7C, .set7D, .set7E, .set7H, .set7L, .set7MemHl, .set7A] := by decide

/-! ## Whole words -/

theorem test_decode_immediate_load : decode [0b00000110, 0x42, 0xDD] = .ok (.ldBN 0x42) [0xDD] := by decide
theorem test_decode_register_load : decode [0b01100101] = .ok .ldHL [] := by decide
theorem test_decode_accumulator_load : decode [0b00011010] = .ok .ldAMemDe [] := by decide
theorem test_decode_binary : decode [0b10011110] = .ok .sbcAMemHl [] := by decide
theorem test_decode_binary_immediate : decode [0b11101110, 0xFF] = .ok (.xorAN 0xFF) [] := by decide
theorem test_decode_unary : decode [0b00110101, 0x00] = .ok .decMemHl [0x00] := by decide
theorem test_decode_swap : decode [0b11001011, 0b00110101] = .ok .swapL [] := by decide
theorem test_decode_bit : decode [0b11001011, 0b01101010] = .ok .bit5D [] := by decide
theorem test_decode_res : decode [0b11001011, 0b10000110] = .ok .res0MemHl [] := by decide
theorem test_decode_set : decode [0b11001011, 0b11111101] = .ok .set7L [] := by decide
theorem test_decode_stack : decode [0b11110001] = .ok .popAf [] := by decide
theorem test_decode_rst : decode [0b11111111] = .ok .rst38 [] := by decide
theorem test_decode_unimplemented : decode [0b00110110, 0x55] = .ok .unimplLdMemHlN [0x55] := by decide
theorem test_decode_unimplemented_selector : decode [0b11001011, 0b00010110] = .ok .unimplRlMemHl [] := by decide
theorem test_decode_rejects_empty : decode [] = .rejected .noByte := by decide
theorem test_decode_rejects_lone_prefix : decode [0xCB] = .rejected (.secondByteMissing 0xCB) := by decide

/-- Words in the numbering of spec/opcode_table.json: one byte; the prefix row; an extended row with the prefix in the high byte. -/
theorem test_table_words : decodeTableWord 8 0x06 = some (.ldBN 0x00) ∧ decodeTableWord 8 0xCB = some (.prefixCb 0x00) ∧
    decodeTableWord 16 0xCB37 = some .swapA ∧ decodeTableWord 16 0x37CB = some .swapA := by decide

/-- A word placed where the next step fetches is what it runs: the bytes stand at `pc`, the prefix first. -/
theorem test_withFetchWord : (fetchInstr (State.reset.withFetchWord 16 0xCB37)).1 = .swapA ∧
    (State.reset.withFetchWord 8 0x04).mem = [(0x0100, 0x04)] := by decide

/-! ## Single steps, with the values of spec/95_test_vectors.md (each theorem names its vectors) -/

/-- The reset state with bytes of memory (in canonical form). -/
def onReset (m : Memory) : State := { State.reset with mem := m }

/-- What a step leaves, seen through a view. -/
def seen {α : Type} (s : State) (view : State → α) : Option α :=
  match step s with
  | .next t => some (view t)
  | .fault _ => none
  | .refused _ => none

-- ADD: V1, V10
theorem test_add_register : seen { onReset [(0x0100, 0x80)] with a := 0xFF, b := 0x01 } (fun t => (t.a, t.f)) = some (0x00, 0xB0) := by decide
theorem test_add_memory : seen { onReset [(0x0100, 0x86), (0xC010, 0xBC)] with a := 0x5A, h := 0xC0, l := 0x10, f := 0x20 }
    (fun t => (t.a, t.f)) = some (0x16, 0x30) := by decide
-- ADC: V13 (the carry-in is in the result and not in H and C), V21 (A is both operands)
theorem test_adc_carry_in : seen { onReset [(0x0100, 0x89)] with a := 0xFF, f := 0x10 } (fun t => (t.a, t.f)) = some (0x00, 0x80) := by decide
theorem test_adc_same_register : seen { onReset [(0x0100, 0x8F)] with a := 0x80, f := 0x10 } (fun t => (t.a, t.f)) = some (0x01, 0x10) := by decide
-- SUB: V26, V34
theorem test_sub_borrow : seen { onReset [(0x0100, 0x92)] with a := 0x3E, d := 0x40 } (fun t => (t.a, t.f)) = some (0xFE, 0x50) := by decide
theorem test_sub_immediate : seen { onReset [(0x0100, 0xD6), (0x0101, 0x11)] with a := 0x10 } (fun t => (t.a, t.f, t.pc)) =
    some (0xFF, 0x70, 0x0102) := by decide
-- SBC: V36, V41
theorem test_sbc_carry_in : seen { onReset [(0x0100, 0x9B)] with f := 0x10 } (fun t => (t.a, t.f)) = some (0xFF, 0x40) := by decide
theorem test_sbc_borrow : seen { onReset [(0x0100, 0x9B)] with e := 0xFF, f := 0x10 } (fun t => (t.a, t.f)) = some (0x00, 0xF0) := by decide
-- AND: V48; XOR: V58; OR: V65
theorem test_and : seen { onReset [(0x0100, 0xA4)] with a := 0x5A, f := 0x50 } (fun t => (t.a, t.f)) = some (0x00, 0xA0) := by decide
theorem test_xor : seen { onReset [(0x0100, 0xAE), (0xC010, 0xBC)] with a := 0xFF, h := 0xC0, l := 0x10, f := 0x10 }
    (fun t => (t.a, t.f)) = some (0x43, 0x00) := by decide
theorem test_or : seen { onReset [(0x0100, 0xF6)] with f := 0xF0 } (fun t => (t.a, t.f, t.pc)) = some (0x00, 0x80, 0x0102) := by decide
-- INC: V73 (the low nibble of F is kept), V76 (no carry into H)
theorem test_inc_nibble : seen { onReset [(0x0100, 0x04)] with b := 0x0F, f := 0xCF } (fun t => (t.b, t.f)) = some (0x10, 0x2F) := by decide
theorem test_inc_half_of_pair : seen { onReset [(0x0100, 0x2C)] with h := 0xC0, l := 0xFF } (fun t => (t.h, t.l, t.f)) =
    some (0xC0, 0x00, 0xA0) := by decide
-- DEC: V86, V93
theorem test_dec_wraps : seen { onReset [(0x0100, 0x0D)] with f := 0x90 } (fun t => (t.c, t.f)) = some (0xFF, 0x70) := by decide
theorem test_dec_memory : seen { onReset [(0x0100, 0x35), (0xC011, 0xBC)] with h := 0xC0, l := 0x11, f := 0x10 }
    (fun t => (t.memRead 0xC011, t.f)) = some (0xBB, 0x50) := by decide
-- SWAP: V100, V102
theorem test_swap : seen { onReset [(0x0100, 0xCB), (0x0101, 0x35)] with l := 0x80, f := 0x1F } (fun t => (t.l, t.f)) =
    some (0x08, 0x0F) := by decide
theorem test_swap_zero : seen { onReset [(0x0100, 0xCB), (0x0101, 0x36)] with h := 0xC0, l := 0x10, f := 0x70 } (fun t => t.f) =
    some 0x80 := by decide
-- BIT: V111, V114
theorem test_bit_clear : seen { onReset [(0x0100, 0xCB), (0x0101, 0x6A)] with f := 0x9F } (fun t => (t.d, t.f)) = some (0x00, 0xBF) := by decide
theorem test_bit_set : seen { onReset [(0x0100, 0xCB), (0x0101, 0x46), (0xC010, 0x01)] with h := 0xC0, l := 0x10, f := 0x10 }
    (fun t => (t.memRead 0xC010, t.f)) = some (0x01, 0x30) := by decide
-- RES: V118, V119
theorem test_res_address_register : seen { onReset [(0x0100, 0xCB), (0x0101, 0xB4)] with h := 0xC0 } (fun t => (t.h, t.f)) =
    some (0x80, 0x00) := by decide
theorem test_res_memory : seen { onReset [(0x0100, 0xCB), (0x0101, 0x86), (0xC010, 0xBD)] with h := 0xC0, l := 0x10, f := 0xA0 }
    (fun t => (t.memRead 0xC010, t.f)) = some (0xBC, 0xA0) := by decide
-- SET: V122, V125
theorem test_set : seen { onReset [(0x0100, 0xCB), (0x0101, 0xFD)] with l := 0x01 } (fun t => (t.l, t.f)) = some (0x81, 0x00) := by decide
theorem test_set_memory : seen { onReset [(0x0100, 0xCB), (0x0101, 0xDE), (0xC010, 0xB5)] with h := 0xC0, l := 0x10 }
    (fun t => t.memRead 0xC010) = some 0xBD := by decide
-- PUSH: V128 (sp wraps), V130
theorem test_push_wraps : seen { onReset [(0x0100, 0xD5)] with d := 0xBE, e := 0xEF, sp := 0x0001 }
    (fun t => (t.memRead 0x0001, t.memRead 0x0000, t.sp)) = some (0xBE, 0xEF, 0xFFFF) := by decide
theorem test_push_af : seen { onReset [(0x0100, 0xF5)] with a := 0xAB, f := 0x9C, sp := 0xD000 }
    (fun t => (t.memRead 0xD000, t.memRead 0xCFFF, t.sp)) = some (0xAB, 0x9C, 0xCFFE) := by decide
-- POP: V133 (sp wraps), V134 and V135 (the two settings of F_WRITE_MASK)
theorem test_pop_wraps : seen { onReset [(0x0000, 0x88), (0x0100, 0xE1), (0xFFFF, 0x77)] with sp := 0xFFFE }
    (fun t => (t.h, t.l, t.sp)) = some (0x88, 0x77, 0x0000) := by decide
theorem test_pop_af : seen { onReset [(0x0100, 0xF1), (0xCFFF, 0x9C), (0xD000, 0xAB)] with sp := 0xCFFE } (fun t => (t.a, t.f)) =
      some (0xAB, 0x9C) ∧
    (pop { fWriteMask := 0xF0 } .af { onReset [(0xCFFF, 0x9C), (0xD000, 0xAB)] with sp := 0xCFFE }).f = 0x90 := by decide
-- RST: V136, V139 (pc wraps before it is pushed)
theorem test_rst : seen { onReset [(0x014F, 0xCF)] with pc := 0x014F } (fun t => (t.pc, t.sp, t.memRead 0xFFFE, t.memRead 0xFFFD)) =
    some (0x0008, 0xFFFC, 0x01, 0x50) := by decide
theorem test_rst_pc_wraps : seen { onReset [(0xFFFE, 0x5A), (0xFFFF, 0xFF)] with pc := 0xFFFF }
    (fun t => (t.pc, t.memRead 0xFFFE, t.memRead 0xFFFD)) = some (0x0038, 0x00, 0x00) := by decide
-- LD r,n: V146; LD r,r': V150; LD r,(HL): V152, V154; LD (HL),r: V157
theorem test_ld_immediate_wraps : seen { onReset [(0x0000, 0x99), (0xFFFF, 0x3E)] with pc := 0xFFFF } (fun t => (t.a, t.pc)) =
    some (0x99, 0x0001) := by decide
theorem test_ld_register : seen { onReset [(0x0100, 0x65)] with h := 0x12, l := 0x34 } (fun t => (t.h, t.l)) = some (0x34, 0x34) := by decide
theorem test_ld_from_memory : seen { onReset [(0x0100, 0x66), (0xC010, 0x12)] with h := 0xC0, l := 0x10 } (fun t => (t.h, t.l)) =
    some (0x12, 0x10) := by decide
theorem test_ld_own_opcode : seen { onReset [(0x0100, 0x7E)] with h := 0x01 } (fun t => t.a) = some 0x7E := by decide
theorem test_ld_to_memory : seen { onReset [(0x0100, 0x75)] with h := 0xC0, l := 0x10 } (fun t => t.memRead 0xC010) = some 0x10 := by decide
-- LD A,(BC), LD A,(DE), LD (BC),A, LD (DE),A: V159 to V162
theorem test_ld_a_from_bc : seen { onReset [(0x0100, 0x0A), (0x1234, 0x99)] with b := 0x12, c := 0x34 } (fun t => t.a) = some 0x99 := by decide
theorem test_ld_a_from_de : seen { onReset [(0x0100, 0x1A), (0xC001, 0x77)] with d := 0xC0, e := 0x01 } (fun t => t.a) = some 0x77 := by decide
theorem test_ld_a_to_bc : seen { onReset [(0x0100, 0x02)] with a := 0xAB, b := 0xC0 } (fun t => t.memRead 0xC000) = some 0xAB := by decide
theorem test_ld_a_to_de : seen { onReset [(0x0100, 0x12)] with a := 0xAB, d := 0xC0, e := 0x01 } (fun t => t.memRead 0xC001) =
    some 0xAB := by decide
-- NOP: V164
theorem test_nop_wraps : seen { State.reset with pc := 0xFFFF } (fun t => (t.pc, t.sp)) = some (0x0000, 0xFFFE) := by decide
-- Faults: V175, V180, V202, V203; a faulted step: Q2
theorem test_invalid : seen (onReset [(0x0100, 0xFD)]) (fun t => (t.status, t.pc)) =
    some (.faulted ⟨.invalidOpcode, 0xFD, 0x0100, false⟩, 0x0101) := by decide
theorem test_unimplemented : seen (onReset [(0x0100, 0x01), (0x0101, 0x34), (0x0102, 0x12)]) (fun t => (t.status, t.pc)) =
    some (.faulted ⟨.notImplemented, 0x01, 0x0100, false⟩, 0x0101) := by decide
theorem test_unimplemented_selector : seen (onReset [(0x0100, 0xCB), (0x0101, 0x16)]) (fun t => (t.status, t.pc)) =
    some (.faulted ⟨.notImplemented, 0x16, 0x0101, true⟩, 0x0102) := by decide
theorem test_prefix_wraps : seen { onReset [(0x0000, 0x38), (0xFFFF, 0xCB)] with pc := 0xFFFF } (fun t => (t.status, t.pc)) =
    some (.faulted ⟨.notImplemented, 0x38, 0x0000, true⟩, 0x0001) := by decide

/-- The state of Q2 after its second step. -/
def faultedAt0102 : State :=
  { onReset [(0x0100, 0x3E), (0x0101, 0x77), (0x0102, 0xDD), (0x0103, 0x3C)] with
    a := 0x77, pc := 0x0103, status := .faulted ⟨.invalidOpcode, 0xDD, 0x0102, false⟩ }

theorem test_faulted_step : seen faultedAt0102 id = some faultedAt0102 := by decide
theorem test_host_reset : (hostReset faultedAt0102).pc = 0x0100 ∧ (hostReset faultedAt0102).status = .running ∧
    (hostReset faultedAt0102).memRead 0x0102 = 0xDD := by decide
theorem test_load_image : (loadImage params [0x00, 0x3E] State.reset).map (fun t => t.mem) = some [(0x0001, 0x3E)] := by decide
-- The parameters at their alternatives: V13 (CARRY_IN_FLAGS = true), V135 (F_WRITE_MASK = 0xF0)
theorem test_carry_in_flags :
    (stepCascade { params with carryInFlags := true } { onReset [(0x0100, 0x89)] with a := 0xFF, f := 0x10 }).f = 0xB0 ∧
    (stepCascade params { onReset [(0x0100, 0x89)] with a := 0xFF, f := 0x10 }).f = 0x80 := by decide
theorem test_f_write_mask : (stepCascade { params with fWriteMask := 0xF0 }
    { onReset [(0x0100, 0xF1), (0xCFFF, 0x9C), (0xD000, 0xAB)] with a := 0x11, sp := 0xCFFE }).pair .af = 0xAB90 := by decide
theorem test_fault_codes : [FaultKind.invalidOpcode, .notImplemented, .invalidOperandMask].map (fun kind => faultCode kind) = [1, 2, 3] := by
  decide
-- The bus: V77 (read, then write at the same address), V202 (no access at HL)
theorem test_bus_read_modify_write : stepTrace { onReset [(0x0100, 0x34), (0xC010, 0xFF)] with h := 0xC0, l := 0x10 } =
    [.fetch 0x0100 0x34, .read 0xC010 0xFF, .write 0xC010 0x00] := by decide
theorem test_bus_unimplemented : stepTrace (onReset [(0x0100, 0xCB), (0x0101, 0x16)]) = [.fetch 0x0100 0xCB, .fetch 0x0101 0x16] := by
  decide
-- Masks: HL is 0xC0; 0x07 names three registers, 0x05 no pair
theorem test_masks : pairMask .hl = 0xC0 ∧ composeAddress 0xC0 { State.reset with h := 0xC0, l := 0x10 } = some 0xC010 ∧
    readMask 0x07 State.reset = none ∧ readMask 0x05 State.reset = none := by decide

/-! ## Witnesses: for each statement with hypotheses, a state and operands that meet all of them -/

theorem witness_DecodeInvertsEncode : (Instr.ldBN 0xFF).wellFormed = true ∧ Instr.set7A.wellFormed = true := by decide
theorem witness_EncodeInvertsDecode : decode [0xCB, 0xFF, 0x00] = .ok .set7A [0x00] ∧ decode [0x00] = .ok .nop [] := by decide
theorem witness_DecoderRejectsOnlyShortInput : decode [] = .rejected .noByte ∧ decode [0xCB] = .rejected (.secondByteMissing 0xCB) ∧
    decode [0xF6] = .rejected (.secondByteMissing 0xF6) := by decide
theorem witness_StepRunsDecodedInstruction :
    State.reset.status = .running ∧ decode [State.reset.memRead State.reset.pc, State.reset.memRead (State.reset.pc + 1)] = .ok .nop [0x00] ∧
    decode [(onReset [(0x0100, 0xCB), (0x0101, 0x37)]).memRead 0x0100, (onReset [(0x0100, 0xCB), (0x0101, 0x37)]).memRead 0x0101] =
      .ok .swapA [] := by decide
theorem witness_FaultedStepDoesNothing : faultedAt0102.status = .faulted ⟨.invalidOpcode, 0xDD, 0x0102, false⟩ := by decide
theorem witness_PrefixMeansSelectedRow : (onReset [(0x0100, 0xCB), (0x0101, 0x37)]).status = .running ∧
    (onReset [(0x0100, 0xCB), (0x0101, 0x37)]).memRead (onReset [(0x0100, 0xCB), (0x0101, 0x37)]).pc = 0xCB := by decide
theorem witness_RunningStepChangesTheState : State.reset.status = .running ∧ step State.reset = .next { State.reset with pc := 0x0101 } :=
  ⟨rfl, rfl⟩

/-- The three kinds of length, and RST, at the first and the last vector. -/
theorem witness_StepMovesPc :
    (∃ t, step (onReset [(0x0100, 0xC7)]) = .next t ∧ (fetchInstr (onReset [(0x0100, 0xC7)])).1.form = some (.rst .o0)) ∧
    (∃ t, step (onReset [(0x0100, 0xFF)]) = .next t ∧ (fetchInstr (onReset [(0x0100, 0xFF)])).1.form = some (.rst .o7)) ∧
    (∃ t, step State.reset = .next t ∧ ∀ y, (fetchInstr State.reset).1.form ≠ some (.rst y)) ∧
    (∃ t, step (onReset [(0x0100, 0xDD)]) = .next t ∧ ∀ y, (fetchInstr (onReset [(0x0100, 0xDD)])).1.form ≠ some (.rst y)) ∧
    (∃ t, step (onReset [(0x0100, 0xCB)]) = .next t ∧ ∀ y, (fetchInstr (onReset [(0x0100, 0xCB)])).1.form ≠ some (.rst y)) :=
  ⟨⟨_, rfl, rfl⟩, ⟨_, rfl, rfl⟩, ⟨_, rfl, fun _ h => nomatch h⟩, ⟨_, rfl, fun _ h => nomatch h⟩, ⟨_, rfl, fun _ h => nomatch h⟩⟩

/-- Program P4 of spec/95_test_vectors.md at its store, with the next byte as the target. -/
def storesAhead : State := { onReset [(0x0100, 0x77)] with a := 0x3C, h := 0x01, l := 0x01 }

theorem witness_StoreIsSeenByNextFetch : storesAhead.mem.wf ∧ storesAhead.status = .running ∧
    (fetchInstr storesAhead).1 = (Form.ldToHl .a).instr ∧ storesAhead.pair .hl = storesAhead.pc + 1 := by decide
theorem witness_UnimplementedRowsFault : (0x01 : Byte) ∈ unimplementedPrimarySet ∧ (0xFB : Byte) ∈ unimplementedPrimarySet ∧
    unimplementedSelector 0x00 = true ∧ unimplementedSelector 0x2F = true ∧ unimplementedSelector 0x38 = true ∧
    unimplementedSelector 0x3F = true ∧ unimplementedSelector 0x30 = false ∧ unimplementedSelector 0x37 = false ∧
    unimplementedSelector 0x40 = false := by decide
theorem witness_InvalidRowsFault : (0xD3 : Byte) ∈ invalidSet ∧ (0xFD : Byte) ∈ invalidSet := by decide
theorem witness_InvalidOpcodeRaisedExactly :
    (∃ t, step (onReset [(0x0100, 0xD3)]) = .next t ∧ t.status = .faulted ⟨.invalidOpcode, 0xD3, 0x0100, false⟩) ∧
    (∃ t, step State.reset = .next t ∧ t.status = .running) := ⟨⟨_, rfl, rfl⟩, ⟨_, rfl, rfl⟩⟩
theorem witness_NotImplementedRaisedExactly :
    (∃ t, step (onReset [(0x0100, 0x76)]) = .next t ∧ t.status = .faulted ⟨.notImplemented, 0x76, 0x0100, false⟩) ∧
    (∃ t, step (onReset [(0x0100, 0xCB), (0x0101, 0x3F)]) = .next t ∧ t.status = .faulted ⟨.notImplemented, 0x3F, 0x0101, true⟩) :=
  ⟨⟨_, rfl, rfl⟩, ⟨_, rfl, rfl⟩⟩
theorem witness_OperandMaskFaultUnreachable :
    ∃ t r, State.reset.status = .running ∧ step (onReset [(0x0100, 0xDD)]) = .next t ∧ t.status = .faulted r := ⟨_, _, rfl, rfl, rfl⟩
theorem witness_FaultsArePrecise :
    (∃ t r, step (onReset [(0x0100, 0xDD)]) = .next t ∧ t.status = .faulted r ∧ r.ext = false) ∧
    (∃ t r, step (onReset [(0x0100, 0xCB)]) = .next t ∧ t.status = .faulted r ∧ r.ext = true) :=
  ⟨⟨_, _, rfl, rfl, rfl⟩, ⟨_, _, rfl, rfl, rfl⟩⟩
theorem witness_RunCompletesAtTerminator :
    (∃ t, step (onReset [(0x0100, 0xDD)]) = .next t ∧ RunComplete 0x0100 t) ∧
    (∃ t, step (onReset [(0x0100, 0xDD)]) = .next t ∧ t.status ≠ .running ∧ ¬ RunComplete 0x0101 t) :=
  ⟨⟨_, rfl, rfl⟩, ⟨_, rfl, by decide, by unfold RunComplete; decide⟩⟩
theorem witness_WiredFormsCompleteWithinFrame : Reg.b ∉ writtenRegs (.alu .add .memHl) ∧ Reg.b ≠ .f ∧ (∀ y, Form.alu .add .memHl ≠ .rst y) ∧
    (0xC001 : Word) ∉ storedAddrs (.ldToHl .a) { State.reset with h := 0xC0 } := ⟨by decide, by decide, by simp, by decide⟩

theorem witness_EveryInstructionCompletes : Instr.nop.form = some .nop ∧ (Instr.invalidDD.form = none ∧ Instr.invalidDD.wellFormed = true) ∧
    (Instr.unimplHalt.form = none ∧ Instr.unimplHalt.wellFormed = true) ∧
    (Instr.unimplSrlA.form = none ∧ Instr.unimplSrlA.wellFormed = true) := by decide

/-- Two states that differ in F alone, its low nibble included. -/
theorem witness_OnlyAdcSbcPushAfReadFlags :
    AgreeOffF State.reset { State.reset with f := 0xFF } ∧ (∀ q, Form.alu .add .memHl ≠ .alu .adc q) ∧
    (∀ n, Form.alu .add .memHl ≠ .aluImm .adc n) ∧ (∀ q, Form.alu .add .memHl ≠ .alu .sbc q) ∧
    (∀ n, Form.alu .add .memHl ≠ .aluImm .sbc n) ∧ Form.alu .add .memHl ≠ .push .af ∧
    (∃ t t', exec (Form.alu .add .memHl).instr State.reset = .next t ∧
      exec (Form.alu .add .memHl).instr { State.reset with f := 0xFF } = .next t') :=
  ⟨rfl, by simp, by simp, by simp, by simp, by simp, _, _, rfl, rfl⟩
/-- For the clauses on ADC and SBC (equal carry), on the detector (equal N) and on PUSH AF. -/
theorem witness_OnlyAdcSbcPushAfReadFlags_others :
    AgreeOffF { State.reset with f := 0x10 } { State.reset with f := 0xF0 } ∧
    ({ State.reset with f := 0x10 } : State).flagC = ({ State.reset with f := 0xF0 } : State).flagC ∧
    Form.alu .sbc .memHl ≠ .push .af ∧ ({ State.reset with f := 0x40 } : State).flagN = ({ State.reset with f := 0xF0 } : State).flagN ∧
    State.reset.mem.wf ∧
    (∃ t t', exec (Form.alu .sbc .memHl).instr { State.reset with f := 0x10 } = .next t ∧
      exec (Form.alu .sbc .memHl).instr { State.reset with f := 0xF0 } = .next t') :=
  ⟨rfl, by decide, by simp, by decide, by decide, _, _, rfl, rfl⟩
/-- For the clause on the functions with a carry handler. -/
theorem witness_OnlyAdcSbcPushAfReadFlags_detector : hasCarryHandler .add = true ∧ hasCarryHandler .sbc = true := by decide
/-- A step in which a parameter shows (ADC with C set), one in which it does not (C clear), POP AF, and a fault. -/
theorem witness_OnlyAdcSbcPopAfReadParameters :
    (∃ t, step { onReset [(0x0100, 0x89)] with f := 0x10 } = .next t ∧
      (fetchInstr { onReset [(0x0100, 0x89)] with f := 0x10 }).1.form = some (.alu .adc (.reg .c))) ∧
    (∃ t, step (onReset [(0x0100, 0x89)]) = .next t ∧ (onReset [(0x0100, 0x89)]).flagC = false) ∧
    (∃ t, step (onReset [(0x0100, 0xCE)]) = .next t ∧ (fetchInstr (onReset [(0x0100, 0xCE)])).1.form = some (.aluImm .adc 0x00)) ∧
    (∃ t, step (onReset [(0x0100, 0xF1)]) = .next t ∧ (fetchInstr (onReset [(0x0100, 0xF1)])).1.form = some (.pop .af)) ∧
    (∃ t, step (onReset [(0x0100, 0xDD)]) = .next t ∧ (fetchInstr (onReset [(0x0100, 0xDD)])).1.form = none) ∧
    ((∀ q, Form.pop .bc ≠ .alu .adc q) ∧ (∀ n, Form.pop .bc ≠ .aluImm .adc n) ∧ (∀ q, Form.pop .bc ≠ .alu .sbc q) ∧
      (∀ n, Form.pop .bc ≠ .aluImm .sbc n) ∧ Form.pop .bc ≠ .pop .af) :=
  ⟨⟨_, rfl, rfl⟩, ⟨_, rfl, by decide⟩, ⟨_, rfl, rfl⟩, ⟨_, rfl, rfl⟩, ⟨_, rfl, rfl⟩, by simp, by simp, by simp, by simp, by simp⟩
theorem witness_LowNibbleOfFIsInert :
    AgreeOffLowNibble { State.reset with f := 0x10 } { State.reset with f := 0x1F } ∧ Form.alu .adc (.reg .b) ≠ .push .af ∧
    (∃ t t', exec (Form.alu .adc (.reg .b)).instr { State.reset with f := 0x10 } = .next t ∧
      exec (Form.alu .adc (.reg .b)).instr { State.reset with f := 0x1F } = .next t') :=
  ⟨⟨rfl, by decide⟩, by simp, _, _, rfl, rfl⟩
theorem witness_BusTraceExplainsStep : State.reset.status = .running ∧ (∃ t, step State.reset = .next t) ∧
    (stepTrace State.reset).length = 1 ∧ (stepTrace (onReset [(0x0100, 0xCB), (0x0101, 0x36)])).length = 4 :=
  ⟨rfl, ⟨_, rfl⟩, by decide, by decide⟩
/-- Another memory that agrees on what the step reads, and a step of each stack form. -/
theorem witness_BusTraceExplainsStep_others :
    readAddrs (stepTrace State.reset) = [0x0100] ∧ (onReset [(0x0101, 0x3C)]).memRead 0x0100 = State.reset.memRead 0x0100 ∧
    (fetchInstr (onReset [(0x0100, 0xC5)])).1.form = some (.push .bc) ∧
    (fetchInstr (onReset [(0x0100, 0xFF)])).1.form = some (.rst .o7) ∧
    (fetchInstr (onReset [(0x0100, 0xF1)])).1.form = some (.pop .af) := ⟨by decide, by decide, rfl, rfl, rfl⟩

/-- The canonical memory that the statements about stores ask for. -/
theorem witness_canonical_memory : State.reset.mem.wf ∧ (onReset [(0x0000, 0x01), (0xFFFF, 0xFF)]).mem.wf ∧
    ¬ (onReset [(0x0001, 0x01), (0x0000, 0x01)]).mem.wf ∧ ¬ (onReset [(0x0000, 0x00)]).mem.wf ∧
    ¬ (onReset [(0x10000, 0x01)]).mem.wf := by decide
theorem witness_MoveCopiesOneByte : State.reset.mem.wf := by decide
theorem witness_AccumulatorMovesThroughBcDe : State.reset.mem.wf := by decide
theorem witness_LoadImmediateLoadsOneRegister : (Reg.c ∉ [GReg.b.toReg]) ∧ (0xFFFF : Word) ∉ ([] : List Word) ∧ populationCount 0x00 ≠ 1 ∧
    populationCount (pairMask .hl) ≠ 1 := by decide
theorem witness_CarryDetectorClosedForm : ({ State.reset with f := 0x00 } : State).flagN = false ∧
    ({ State.reset with f := 0x40 } : State).flagN = true ∧ params.FlagBitsDistinct ∧
    ({ params with zBit := 4, nBit := 5, hBit := 6, cBit := 7 } : Params).FlagBitsDistinct := by
  unfold Params.FlagBitsDistinct
  decide
theorem witness_PairsAreViews : ∀ p : Pair, ¬ (p.hi = .a ∧ p.lo = .b) ∧ ¬ (p.hi = .b ∧ p.lo = .a) := by
  intro p; cases p <;> decide
theorem witness_ComposeAddressIsThePairView : 0 < 8 ∧ 7 < 8 ∧ populationCount 0x00 ≠ 1 ∧ populationCount 0xC0 ≠ 1 ∧
    populationCount 0x80 ≠ 2 ∧ populationCount 0xFF ≠ 2 := by decide
theorem witness_UnaryMemoryResult : State.reset.mem.wf := by decide
theorem witness_SetResChangeOneBit : State.reset.mem.wf ∧ Oct.o0.toNat < 8 ∧ Oct.o7.toNat < 8 := by decide
theorem witness_PushStoresHighThenLow : ({ State.reset with sp := 0x0000 } : State).mem.wf := by decide
theorem witness_PopLoadsLowThenHigh : ∃ t, exec .popAf State.reset = .next t := ⟨_, rfl⟩
theorem witness_PopGivesBackWhatPushStored : ∃ t, State.reset.mem.wf ∧ exec (Form.push .bc).instr State.reset = .next t ∧
    ({ t with b := 0x55 } : State).mem = t.mem ∧ ({ t with b := 0x55 } : State).sp = t.sp := ⟨_, by decide, rfl, rfl, rfl⟩
theorem witness_RstPushesPcAndJumps : State.reset.mem.wf := by decide
theorem witness_NopOnlyAdvancesPc : State.reset.status = .running ∧ State.reset.memRead State.reset.pc = 0x00 := by decide
theorem witness_BusReadsLastWrite : State.reset.mem.wf ∧ (0xFFFF : Word) ≠ 0x0000 ∧ Memory.wf [(0x0100, 0x80)] ∧
    (∀ addr : Word, Memory.read [(0x0100, 0x80)] addr = Memory.read [(0x0100, 0x80)] addr) :=
  ⟨by decide, by decide, by decide, fun _ => rfl⟩
theorem witness_InvalidMasksFault : populationCount 0x00 ≠ 1 ∧ populationCount 0x00 ≠ 2 ∧ populationCount 0x07 ≠ 1 ∧
    populationCount 0x07 ≠ 2 ∧ populationCount 0xFF ≠ 1 ∧ populationCount 0xFF ≠ 2 := by decide
theorem witness_LoadImageCopiesBuffer : State.reset.mem.wf ∧ (List.replicate 65537 (0x00 : Byte)).length > 65536 ∧
    (List.replicate 65536 (0x00 : Byte)).length ≤ 65536 ∧ ([0x3E] : List Byte)[0]? = some 0x3E ∧
    ([0x3E] : List Byte).length ≤ (0x0001 : Word).toNat ∧
    (∃ t, loadImage params [0x3E] State.reset = some t) ∧
    ([0x3E] : List Byte).length ≤ ((0x0000 : Word) - ({ params with imageBase := 0xFFFF } : Params).imageBase).toNat :=
  ⟨by decide, by rw [List.length_replicate]; decide, by rw [List.length_replicate], rfl, by decide, ⟨_, rfl⟩, by decide⟩
theorem witness_RunIsRepeatedStep : faultedAt0102.status = .faulted ⟨.invalidOpcode, 0xDD, 0x0102, false⟩ := by decide

/-- The invariant in a running state, in a faulted state of each kind, and steps from them. -/
theorem witness_StepKeepsInvariant :
    (Inv State.reset ∧ ∃ t, step State.reset = .next t) ∧ (Inv faultedAt0102 ∧ ∃ t, step faultedAt0102 = .next t) ∧
    Inv { onReset [(0x0100, 0x76)] with pc := 0x0101, status := .faulted ⟨.notImplemented, 0x76, 0x0100, false⟩ } ∧
    Inv { onReset [(0x0100, 0xCB)] with pc := 0x0102, status := .faulted ⟨.notImplemented, 0x00, 0x0101, true⟩ } := by
  refine ⟨⟨⟨by decide, trivial⟩, _, rfl⟩, ⟨⟨by decide, by decide, by decide, by decide⟩, _, rfl⟩, ⟨by decide, by decide, by decide, ?_⟩,
    ⟨by decide, by decide, by decide, ?_⟩⟩
  · exact Or.inl ⟨rfl, by decide⟩
  · exact Or.inr ⟨rfl, by decide, by decide⟩
theorem witness_HostKeepsInvariant : Inv State.reset ∧ State.reset.status = .running ∧ ∃ t, loadImage params [0x00, 0x3E] State.reset = some t :=
  ⟨⟨by decide, trivial⟩, rfl, _, rfl⟩
theorem witness_StepKeepsSpParity : ∃ t, step (onReset [(0x0100, 0xC5)]) = .next t := ⟨_, rfl⟩

end Sys2Proof.Tests
end

section
/-! SUPPORT. The dispatch cascade at any value of the parameters, through the forms: where a byte has an action, the cascade
performs the form of the row the opcode maps have for it, at those parameters; where it has none, the cascade faults as the step
does. -/

namespace Sys2Proof.Machine

/-- The three sets of bytes are the spec's (30_encoding.md R88, R90), whatever the other parameters are. -/
structure DefaultSets (cfg : Params) : Prop where
  invalid : cfg.invalidSet = invalidSet
  primary : cfg.wiredPrimary = Config.wiredPrimary
  extended : cfg.wiredExtended = Config.wiredExtended

/-! ## The cascade over the fields, and the rows of the maps -/

/-- The cascade over the fields of a byte other than 0xCB performs the form of its row, past the immediate where the row has
one, and faults where the row has no form. -/
theorem primaryAction_eq (cfg : Params) (op : Byte) (a0 : Word) (s : State) :
    primaryAction cfg op a0 s =
      if op = Config.prefixByte then extendedDispatch cfg s
      else (decodePrimary op (s.memRead s.pc)).form.elim (raiseFault .notImplemented op a0 false s)
        (perform · (if hasSecondByte op then (fetch8 s cfg).2 else s) cfg) := by
  induction op using byte_cases with
  | h n hn => interval_cases n <;> rfl

/-- The cascade over the fields of a selector performs the form of its row, and faults where the row has none. -/
theorem extendedAction_eq (cfg : Params) (a1 : Word) (sel : Byte) (s : State) :
    extendedAction cfg a1 sel s =
      (decodeExtended sel).form.elim (raiseFault .notImplemented sel a1 true s) (perform · s cfg) := by
  induction sel using byte_cases with
  | h n hn => interval_cases n <;> rfl

/-! ## The rows without a form -/

theorem decodePrimary_form_eq_none {op : Byte} (h : op ∈ invalidSet ∨ op ∈ unimplementedPrimarySet) (n : Byte) :
    (decodePrimary op n).form = none := by
  have hall : (invalidSet ++ unimplementedPrimarySet).Forall (fun op => (decodePrimary op n).form = none) := by
    repeat' apply And.intro
    all_goals rfl
  exact List.forall_iff_forall_mem.mp hall op (List.mem_append.mpr h)

theorem decodeExtended_form_eq_none_iff (sel : Byte) :
    (decodeExtended sel).form = none ↔ unimplementedSelector sel = true := by
  induction sel using byte_cases with
  | h n hn => interval_cases n <;> decide

/-- The wired primary bytes are 0xCB and the bytes whose row has a form (30_encoding.md R88). -/
theorem mem_wiredPrimary_iff_form (op n : Byte) :
    op ∈ Config.wiredPrimary ↔ op = Config.prefixByte ∨ (decodePrimary op n).form ≠ none := by
  rw [mem_wiredPrimary]
  constructor
  · rintro ⟨hinvalid, hunimpl⟩
    by_cases hop : op = Config.prefixByte
    · exact .inl hop
    · rcases exec_decodePrimary_cases op n hop with ⟨form, hform⟩ | ⟨h, -⟩ | ⟨h, -⟩
      · exact .inr (by simp [hform])
      · exact absurd h hunimpl
      · exact absurd h hinvalid
  · rintro (rfl | hform)
    · decide
    · exact ⟨fun h => hform (decodePrimary_form_eq_none (.inl h) n), fun h => hform (decodePrimary_form_eq_none (.inr h) n)⟩

/-- The wired selectors are those whose row has a form (30_encoding.md R88). -/
theorem mem_wiredExtended_iff_form (sel : Byte) : sel ∈ Config.wiredExtended ↔ (decodeExtended sel).form ≠ none := by
  rw [mem_wiredExtended, Ne, decodeExtended_form_eq_none_iff, Bool.not_eq_true]

/-! ## The step and the cascade in a running state -/

/-- A step that fetches a row with a form performs it. -/
theorem step_of_form {s : State} {form : Form} (hr : s.status = .running) (hform : (fetchInstr s).1.form = some form) :
    step s = .next (perform form (fetchInstr s).2) := by
  rw [step_running hr, ← instr_of_form hform, exec_form]

/-- Fetching a byte is the same at every value of the parameters. -/
theorem fetch8_snd (s : State) (cfg : Params) : (fetch8 s cfg).2 = { s with pc := s.pc + 1 } := rfl

/-- The cascade on the first byte of a running state: an invalid byte faults, any other goes to the cascade over its fields. -/
theorem stepCascade_running {cfg : Params} (hsets : DefaultSets cfg) {s : State} (hr : s.status = .running) :
    stepCascade cfg s =
      if s.memRead s.pc ∈ invalidSet then raiseFault .invalidOpcode (s.memRead s.pc) s.pc false { s with pc := s.pc + 1 }
      else primaryAction cfg (s.memRead s.pc) s.pc { s with pc := s.pc + 1 } := by
  simp only [stepCascade, hr, primaryDispatch_eq cfg hsets.invalid hsets.primary, fetch8_fst, fetch8_snd]

/-- The cascade at the byte 0xCB: the selector after it goes to the cascade over its fields. -/
theorem stepCascade_prefix {cfg : Params} (hsets : DefaultSets cfg) {s : State} (hr : s.status = .running)
    (hop : s.memRead s.pc = Config.prefixByte) :
    stepCascade cfg s = extendedAction cfg (s.pc + 1) (s.memRead (s.pc + 1)) { s with pc := s.pc + 2 } := by
  have hvalid : Config.prefixByte ∉ invalidSet := by decide
  have hpc : s.pc + 1 + 1 = s.pc + 2 := by bv_omega
  rw [stepCascade_running hsets hr, hop, if_neg hvalid, primaryAction_eq, if_pos rfl, extendedDispatch,
    extendedSelect_eq cfg hsets.extended, fetch8_fst, fetch8_snd, hpc]
  rfl

/-- The cascade performs the form of the row the step fetches, in the same state and at its own parameters. -/
theorem stepCascade_of_form {cfg : Params} (hsets : DefaultSets cfg) {s : State} {form : Form} (hr : s.status = .running)
    (hform : (fetchInstr s).1.form = some form) : stepCascade cfg s = perform form (fetchInstr s).2 cfg := by
  rw [fetchInstr_snd]
  rw [fetchInstr_fst] at hform
  by_cases hop : s.memRead s.pc = Config.prefixByte
  · rw [decodeBytes, if_pos hop] at hform
    rw [stepCascade_prefix hsets hr hop, extendedAction_eq, hform, hop]
    rfl
  · rw [decodeBytes, if_neg hop] at hform
    have hvalid : s.memRead s.pc ∉ invalidSet := fun h => by simp [decodePrimary_form_eq_none (.inl h)] at hform
    have hnext : ({ s with pc := s.pc + 1 } : State).memRead (s.pc + 1) = s.memRead (s.pc + 1) := rfl
    have hpc : s.pc + 1 + 1 = s.pc + 2 := by bv_omega
    rw [stepCascade_running hsets hr, if_neg hvalid, primaryAction_eq, if_neg hop, hnext, hform, fetch8_snd, hpc]
    split_ifs <;> rfl

/-- Where the row the step fetches has no form, the cascade takes the step's fault. -/
theorem stepCascade_of_fault {cfg : Params} (hsets : DefaultSets cfg) {s t : State} (hr : s.status = .running)
    (hstep : step s = .next t) (hform : (fetchInstr s).1.form = none) : stepCascade cfg s = t := by
  have hdisjoint : ∀ op ∈ unimplementedPrimarySet, op ∉ invalidSet := by decide
  rcases step_cases hr hstep with ⟨form, hi, -⟩ | ⟨hop, rfl⟩ | ⟨hop, rfl⟩ | ⟨hop, hsel, rfl⟩
  · simp [hi, form_instr] at hform
  · rw [stepCascade_running hsets hr, if_neg (hdisjoint _ hop), primaryAction_unimplemented cfg hop]
    rfl
  · rw [stepCascade_running hsets hr, if_pos hop]
    rfl
  · rw [stepCascade_prefix hsets hr hop, extendedAction_unimplemented cfg hsel]
    rfl

end Sys2Proof.Machine
end

section
/-! SUPPORT. What CARRY_IN_FLAGS, F_WRITE_MASK and IMAGE_BASE change in the meaning of a form. -/

namespace Sys2Proof.Machine

/-- The parameters with other values of the three the spec leaves open to a model (93_implementation_defined.md U8, U9, U13). -/
abbrev openParams (carryIn : Bool) (mask : Byte) (base : Word) : Params :=
  { params with carryInFlags := carryIn, fWriteMask := mask, imageBase := base }

theorem defaultSets_openParams (carryIn : Bool) (mask : Byte) (base : Word) : DefaultSets (openParams carryIn mask base) :=
  ⟨rfl, rfl, rfl⟩

theorem AgreeOffF.of_eq {s t : State} (h : s = t) : AgreeOffF s t := h ▸ rfl

theorem usesCarryIn_eq_false {fn : AluFn} (hadc : fn ≠ .adc) (hsbc : fn ≠ .sbc) : usesCarryIn fn = false := by
  cases fn with
  | adc => exact absurd rfl hadc
  | sbc => exact absurd rfl hsbc
  | add | sub | and | xor | or => rfl

/-- The setting of CARRY_IN_FLAGS shows in F at most. -/
theorem binaryResult_agreeOffF (x y : Bool) (fn : AluFn) (b : Byte) (s : State) :
    AgreeOffF (binaryResult x fn b s) (binaryResult y fn b s) := by cases fn <;> rfl

/-- Where no carry-in is handed to the detector, the setting of CARRY_IN_FLAGS does not show. -/
theorem binaryResult_of_no_carryIn (x y : Bool) {fn : AluFn} (b : Byte) {s : State}
    (h : (usesCarryIn fn && s.flagC) = false) : binaryResult x fn b s = binaryResult y fn b s := by
  simp only [binaryResult, h, Bool.and_false]

section
variable (carryIn : Bool) (mask : Byte) (base : Word)

theorem executeBinary_openParams (fn : AluFn) (b : Byte) (s : State) :
    executeBinary (openParams carryIn mask base) fn b s = binaryResult carryIn fn b s :=
  executeBinary_carryIn _ rfl rfl rfl rfl fn b s

theorem executeBinary_openParams_agreeOffF (fn : AluFn) (b : Byte) (s : State) :
    AgreeOffF (executeBinary (openParams carryIn mask base) fn b s) (executeBinary params fn b s) := by
  rw [executeBinary_openParams, executeBinary_eq]
  exact binaryResult_agreeOffF _ _ _ _ _

theorem executeBinary_openParams_eq {fn : AluFn} (b : Byte) {s : State} (h : (fn ≠ .adc ∧ fn ≠ .sbc) ∨ s.flagC = false) :
    executeBinary (openParams carryIn mask base) fn b s = executeBinary params fn b s := by
  have hcin : (usesCarryIn fn && s.flagC) = false := by
    rcases h with ⟨hadc, hsbc⟩ | hC
    · simp [usesCarryIn_eq_false hadc hsbc]
    · simp [hC]
  rw [executeBinary_openParams, executeBinary_eq, binaryResult_of_no_carryIn _ _ _ hcin]

/-- F_WRITE_MASK shows in POP AF alone, and there in F. -/
theorem pop_openParams_eq {p : Pair} (hp : p ≠ .af) (s : State) : pop (openParams carryIn mask base) p s = pop params p s := by
  simp only [pop, if_neg hp]
  rfl

theorem pop_openParams_agreeOffF (p : Pair) (s : State) :
    AgreeOffF (pop (openParams carryIn mask base) p s) (pop params p s) := by cases p <;> rfl

/-- The three parameters show after ADC and SBC with C set and after POP AF at most. -/
theorem perform_openParams_eq {form : Form} {s : State}
    (hcarry : ((∀ q, form ≠ .alu .adc q) ∧ (∀ n, form ≠ .aluImm .adc n) ∧ (∀ q, form ≠ .alu .sbc q) ∧
      (∀ n, form ≠ .aluImm .sbc n)) ∨ s.flagC = false) (hpop : form ≠ .pop .af) :
    perform form s (openParams carryIn mask base) = perform form s := by
  cases form with
  | alu fn q =>
    refine executeBinary_openParams_eq carryIn mask base _ (hcarry.imp_left ?_)
    rintro ⟨hadc, -, hsbc, -⟩
    exact ⟨fun h => hadc q (h ▸ rfl), fun h => hsbc q (h ▸ rfl)⟩
  | aluImm fn n =>
    refine executeBinary_openParams_eq carryIn mask base _ (hcarry.imp_left ?_)
    rintro ⟨-, hadc, -, hsbc⟩
    exact ⟨fun h => hadc n (h ▸ rfl), fun h => hsbc n (h ▸ rfl)⟩
  | pop p => exact pop_openParams_eq carryIn mask base (fun h => hpop (h ▸ rfl)) s
  | bitOp fn b q => cases fn <;> rfl
  | nop | ldImm | ldReg | ldFromHl | ldToHl | ldAFrom | ldATo | unary | push | rst => rfl

/-- The three parameters show in F at most. -/
theorem perform_openParams_agreeOffF (form : Form) (s : State) :
    AgreeOffF (perform form s (openParams carryIn mask base)) (perform form s) := by
  cases form with
  | alu fn q => exact executeBinary_openParams_agreeOffF carryIn mask base fn _ s
  | aluImm fn n => exact executeBinary_openParams_agreeOffF carryIn mask base fn n s
  | pop p => exact pop_openParams_agreeOffF carryIn mask base p s
  | bitOp fn b q => cases fn <;> rfl
  | nop | ldImm | ldReg | ldFromHl | ldToHl | ldAFrom | ldATo | unary | push | rst => rfl

end

end Sys2Proof.Machine
end

section
/-! SUPPORT. The statements on the parameters (00_scope.md R8). -/

namespace Sys2Proof.Machine

/-- Settles O57: a wired row is performed by both steps, at their own parameters (`stepCascade_of_form`, `step_of_form`), and a row
without a form takes one fault in both. -/
theorem onlyAdcSbcPopAfReadParameters : Obligations.OnlyAdcSbcPopAfReadParameters := by
  intro carryIn mask base s t hr hstep cfg
  have hsets : DefaultSets cfg := defaultSets_openParams carryIn mask base
  cases hfetch : (fetchInstr s).1.form with
  | none =>
    have heq := stepCascade_of_fault hsets hr hstep hfetch
    refine ⟨.of_eq heq, ?_, fun _ => heq, ?_, ?_, ?_⟩
    · rintro _ ⟨⟩
    · rintro _ _ ⟨⟩
    · rintro _ _ ⟨⟩
    · rintro _ ⟨⟩
  | some form =>
    have hcascade := stepCascade_of_form hsets hr hfetch
    have ht : perform form (fetchInstr s).2 = t := by simpa [step_of_form hr hfetch] using hstep
    have hC : (fetchInstr s).2.flagC = s.flagC := by rw [fetchInstr_snd]; rfl
    refine ⟨?_, ?_, ?_, ?_, ?_, ?_⟩
    · rw [← ht, hcascade]
      exact perform_openParams_agreeOffF carryIn mask base form _
    · rintro _ ⟨⟩ hcarry hpop
      rw [← ht, hcascade]
      exact perform_openParams_eq carryIn mask base (hC ▸ hcarry) hpop
    · rintro ⟨⟩
    · rintro fn q ⟨⟩
      exact hcascade
    · rintro fn n ⟨⟩
      exact hcascade
    · rintro p ⟨⟩
      exact hcascade

set_option maxRecDepth 10000 in
theorem nodup_wiredPrimary : Config.wiredPrimary.Nodup := .of_map BitVec.toNat (by decide)

set_option maxRecDepth 10000 in
/-- The selectors of the default WIRED_SET stand in rising order. -/
theorem nodup_wiredExtended : Config.wiredExtended.Nodup :=
  have hrising : (Config.wiredExtended.map BitVec.toNat).IsChain (· < ·) := by decide
  .of_map BitVec.toNat (hrising.pairwise.imp Nat.ne_of_lt)

/-- Settles O56: the values are read off `params`, and the wired sets are the bytes the opcode maps give a form
(`mem_wiredPrimary_iff_form`, `mem_wiredExtended_iff_form`). -/
theorem parametersHaveTheirDefaults : Obligations.ParametersHaveTheirDefaults := by
  have hflags : params.FlagBitsDistinct := by
    unfold Params.FlagBitsDistinct
    decide
  exact ⟨rfl, rfl, rfl, ⟨rfl, rfl, rfl, rfl, hflags⟩, rfl, rfl, rfl, rfl,
    ⟨rfl, nodup_wiredPrimary, mem_wiredPrimary_iff_form⟩, ⟨rfl, nodup_wiredExtended, mem_wiredExtended_iff_form⟩,
    rfl, rfl, rfl⟩

end Sys2Proof.Machine
end

section
/-! SUPPORT. What a form changes (10_state.md R25, R28, R33; 20_memory.md R51), one lemma for each shared operation, and after
them the frame and the control state of every form. -/

namespace Sys2Proof.Machine

/-! ## Frames -/

/-- From `s` to `t` nothing changed but some registers, some bits of F and the bytes at some addresses; `pc`, `sp` and `status`
are not spoken of. -/
structure Frame (regs : List Reg) (flags : Byte) (addrs : List Word) (s t : State) : Prop where
  reg : ∀ r, r ∉ regs → r ≠ .f → t.reg r = s.reg r
  flags : t.f &&& ~~~flags = s.f &&& ~~~flags
  mem : SameMemBut addrs s t

/-- The register an operand write changes. -/
def operandRegs : Operand → List Reg
  | .reg r => [r]
  | .mem _ => []

/-- The address an operand write stores to. -/
def operandAddrs (o : Operand) (s : State) : List Word :=
  match o with
  | .reg _ => []
  | .mem p => [s.pair p]

/-- The bits of F a unary function writes (43_alu_unary.md R181): C is kept by INC and DEC. -/
def unaryFlags : UnaryFn → Byte
  | .inc => 0xE0
  | .dec => 0xE0
  | .swap => 0xF0

theorem reg_f (s : State) : s.reg .f = s.f := rfl

/-- Writing F changes no other register. -/
theorem reg_withF (s : State) (v : Byte) {r : Reg} (hr : r ≠ .f) : ({ s with f := v } : State).reg r = s.reg r := by
  cases r with
  | f => exact absurd rfl hr
  | a | b | c | d | e | h | l => rfl

theorem f_writeOperand {o : Operand} (ho : o ≠ .reg .f) (v : Byte) (s : State) : (writeOperand o v s).f = s.f := by
  rw [← reg_f, reg_writeOperand, if_neg ho, reg_f]

theorem Frame.refl (s : State) : Frame [] 0x00 [] s s := ⟨fun _ _ _ => rfl, rfl, fun _ _ => rfl⟩

/-- A frame is widened by a write of F that keeps the bits outside a mask. -/
theorem Frame.withF {regs : List Reg} {addrs : List Word} {s t : State} (h : Frame regs 0x00 addrs s t) {flags v : Byte}
    (hv : v &&& ~~~flags = s.f &&& ~~~flags) : Frame regs flags addrs s { t with f := v } where
  reg r hr hf := by rw [reg_withF t v hf, h.reg r hr hf]
  flags := hv
  mem := h.mem

theorem frame_writeOperand {o : Operand} (ho : o ≠ .reg .f) (v : Byte) (s : State) :
    Frame (operandRegs o) 0x00 (operandAddrs o s) s (writeOperand o v s) where
  reg r hr _ := by
    rw [reg_writeOperand, if_neg]
    rintro rfl
    simp [operandRegs] at hr
  flags := by rw [f_writeOperand ho]
  mem addr haddr := memRead_writeOperand_other o v s (by rintro p rfl; simpa [operandAddrs] using haddr)

theorem frame_executeBinary (fn : AluFn) (b : Byte) (s : State) : Frame [.a] 0xF0 [] s (executeBinary params fn b s) := by
  have ha : ∀ v, Frame [.a] 0x00 [] s { s with a := v } := fun v => frame_writeOperand (o := .reg .a) (by simp) v s
  rw [executeBinary_eq]
  cases fn with
  | add | adc | sub | sbc | and | xor | or => exact (ha _).withF (flagByte_and_low _ _ _ _ _)

theorem frame_executeUnary (fn : UnaryFn) {o : Operand} (ho : o ≠ .reg .f) (s : State) :
    Frame (operandRegs o) (unaryFlags fn) (operandAddrs o s) s (executeUnary params fn o s) := by
  rw [executeUnary_eq fn o s ho]
  cases fn with
  | inc | dec => exact (frame_writeOperand ho _ s).withF (flagByte_and_cLow _ _ _ _)
  | swap => exact (frame_writeOperand ho _ s).withF (flagByte_and_low _ _ _ _ _)

theorem frame_testBit (o : Operand) (b : Oct) (s : State) : Frame [] 0xE0 [] s (testBit params o b s) := by
  rw [testBit_eq]
  exact (Frame.refl s).withF (flagByte_and_cLow _ _ _ _)

theorem frame_push16 (v : Word) (s : State) : Frame [] 0x00 [s.sp, s.sp - 1] s (push16 v s) where
  reg r _ _ := reg_push16 v s r
  flags := by rw [push16_f]
  mem addr haddr := by
    obtain ⟨h0, h1⟩ : addr ≠ s.sp ∧ addr ≠ s.sp - 1 := by simpa using haddr
    exact memRead_push16_other s v h0 h1

/-- POP writes its pair's registers and, where F is one of them, all of F; memory is as it was. -/
theorem frame_pop (p : Pair) (s : State) : Frame [p.hi, p.lo] (writtenFlags (.pop p)) [] s (pop params p s) where
  reg r hr _ := by
    obtain ⟨hhi, hlo⟩ : r ≠ p.hi ∧ r ≠ p.lo := by simpa using hr
    rw [pop_params, State.setPair, reg_setReg_other _ _ hlo, reg_setReg_other _ _ hhi, reg_pop16_snd]
  flags := by
    cases p with
    | af => exact BitVec.and_zero.trans BitVec.and_zero.symm
    | bc | de | hl => rfl
  mem addr _ := by cases p <;> rfl

theorem writtenRegs_unary (fn : UnaryFn) (q : Slot) : writtenRegs (.unary fn q) = operandRegs (slotOperand q) := by
  cases q <;> rfl

theorem storedAddrs_unary (fn : UnaryFn) (q : Slot) (s : State) :
    storedAddrs (.unary fn q) s = operandAddrs (slotOperand q) s := by cases q <;> rfl

theorem writtenFlags_unary (fn : UnaryFn) (q : Slot) : writtenFlags (.unary fn q) = unaryFlags fn := by cases fn <;> rfl

/-- Every form changes at most the registers, flag bits and memory bytes it names. -/
theorem frame_perform (form : Form) (s : State) :
    Frame (writtenRegs form) (writtenFlags form) (storedAddrs form s) s (perform form s) := by
  have hreg : ∀ r : GReg, Operand.reg r.toReg ≠ .reg .f := fun r => slotOperand_ne_f (.reg r)
  have hmem : ∀ p, Operand.mem p ≠ .reg .f := by simp
  cases form with
  | nop => exact Frame.refl s
  | ldImm r n => exact frame_writeOperand (hreg r) n s
  | ldReg dst _ | ldFromHl dst => exact frame_writeOperand (hreg dst) _ s
  | ldAFrom _ => exact frame_writeOperand (hreg .a) _ s
  | ldToHl _ | ldATo _ => exact frame_writeOperand (hmem _) _ s
  | alu fn q => exact frame_executeBinary fn _ s
  | aluImm fn n => exact frame_executeBinary fn n s
  | unary fn q =>
    rw [writtenRegs_unary, writtenFlags_unary, storedAddrs_unary]
    exact frame_executeUnary fn (slotOperand_ne_f q) s
  | bitOp fn b q =>
    cases fn with
    | test => exact frame_testBit _ b s
    | reset | set =>
      cases q with
      | reg r => exact frame_writeOperand (hreg r) _ s
      | memHl => exact frame_writeOperand (hmem .hl) _ s
  | push p => exact frame_push16 _ s
  | pop p => exact frame_pop p s
  | rst t =>
    have h := frame_push16 s.pc s
    exact ⟨h.reg, h.flags, h.mem⟩

/-! ## Control state -/

/-- `pc` after a form, from the one past the instruction (45_stack.md R223, R226): only RST moves it. -/
def pcAfter : Form → Word → Word
  | .rst t, _ => BitVec.ofNat 16 (8 * t.toNat)
  | _, pc => pc

theorem pcAfter_of_ne_rst {form : Form} (h : ∀ t, form ≠ .rst t) (pc : Word) : pcAfter form pc = pc := by
  cases form with
  | rst t => exact absurd rfl (h t)
  | _ => rfl

theorem executeBinary_control (fn : AluFn) (b : Byte) (s : State) : SameControl s (executeBinary params fn b s) := by
  cases fn <;> exact ⟨rfl, rfl, rfl⟩

theorem executeUnary_control (fn : UnaryFn) {o : Operand} (ho : o ≠ .reg .f) (s : State) :
    SameControl s (executeUnary params fn o s) := by
  rw [executeUnary_eq fn o s ho]
  exact writeOperand_control o _ s

theorem perform_control (form : Form) (s : State) :
    (perform form s).pc = pcAfter form s.pc ∧ (perform form s).sp = spAfter form s.sp ∧
      (perform form s).status = s.status := by
  cases form with
  | nop => exact ⟨rfl, rfl, rfl⟩
  | ldImm r n => exact writeOperand_control (.reg r.toReg) n s
  | ldReg | ldFromHl | ldToHl | ldAFrom | ldATo => exact writeOperand_control _ _ s
  | alu fn q => exact executeBinary_control fn _ s
  | aluImm fn n => exact executeBinary_control fn n s
  | unary fn q => exact executeUnary_control fn (slotOperand_ne_f q) s
  | bitOp fn b q =>
    cases fn with
    | test => exact ⟨rfl, rfl, rfl⟩
    | reset | set => exact writeOperand_control _ _ s
  | push p => exact ⟨rfl, push16_sp _ s, rfl⟩
  | pop p => rw [perform, pop_params]; simp [State.setPair, pcAfter, spAfter]
  | rst t => exact ⟨rfl, push16_sp s.pc s, rfl⟩

/-! ## `pc` over a step -/

/-- Fetching moves `pc` past the encoding of the instruction fetched (10_state.md R27). -/
theorem fetchInstr_snd_pc (s : State) :
    (fetchInstr s).2.pc = s.pc + BitVec.ofNat 16 (encode (fetchInstr s).1).length := by
  rw [fetchInstr_snd, encode_fetchInstr_length]
  split <;> rfl

theorem encode_fetchInstr_length_cases (s : State) :
    (encode (fetchInstr s).1).length = 1 ∨ (encode (fetchInstr s).1).length = 2 := by
  rw [encode_fetchInstr_length]
  split
  · exact .inr rfl
  · exact .inl rfl

/-- A step that faults leaves `pc` past the bytes it fetched (60_exceptions.md R265). -/
theorem step_fault_pc {s t : State} (hr : s.status = .running) (hstep : step s = .next t)
    (hform : (fetchInstr s).1.form = none) : t.pc = (fetchInstr s).2.pc := by
  have hone : ∀ op ∈ invalidSet ++ unimplementedPrimarySet, hasSecondByte op = false := by decide
  have htwo : hasSecondByte 0xCB = true := rfl
  rw [fetchInstr_snd]
  rcases step_cases hr hstep with ⟨form, hi, -⟩ | ⟨hop, rfl⟩ | ⟨hop, rfl⟩ | ⟨hop, -, rfl⟩
  · simp [hi, form_instr] at hform
  · simp [hone _ (List.mem_append.mpr (.inr hop))]
  · simp [hone _ (List.mem_append.mpr (.inl hop))]
  · simp only [hop, htwo, if_true]

end Sys2Proof.Machine
end

section
/-! SUPPORT. What reads F (10_state.md R24, R34): each shared operation, from two states that differ in F at most. -/

namespace Sys2Proof.Machine

/-- Two states that differ in F at most, and there outside a mask. -/
abbrev AgreeOn (mask : Byte) (s t : State) : Prop := AgreeOffF s t ∧ s.f &&& mask = t.f &&& mask

/-- The forms whose meaning takes the carry flag as an input (42_alu_binary.md R152). -/
def readsCarry : Form → Bool
  | .alu fn _ => usesCarryIn fn
  | .aluImm fn _ => usesCarryIn fn
  | _ => false

theorem readsCarry_eq_false {form : Form} (hadc : ∀ q, form ≠ .alu .adc q) (hadcImm : ∀ n, form ≠ .aluImm .adc n)
    (hsbc : ∀ q, form ≠ .alu .sbc q) (hsbcImm : ∀ n, form ≠ .aluImm .sbc n) : readsCarry form = false := by
  cases form with
  | alu fn q => exact usesCarryIn_eq_false (fun h => hadc q (h ▸ rfl)) (fun h => hsbc q (h ▸ rfl))
  | aluImm fn n => exact usesCarryIn_eq_false (fun h => hadcImm n (h ▸ rfl)) (fun h => hsbcImm n (h ▸ rfl))
  | _ => rfl

/-! ## Masks of the flag byte -/

/-- Two bytes agree under a mask where they agree on its bits. -/
theorem and_eq_and_of_bitAt {u v mask : Byte} (h : ∀ i < 8, bitAt mask i = true → bitAt u i = bitAt v i) :
    u &&& mask = v &&& mask := by
  apply byte_ext
  intro i hi
  have hbit := h i hi
  simp only [bitAt, BitVec.getLsbD_and] at hbit ⊢
  cases hm : mask.getLsbD i with
  | false => simp
  | true => rw [hbit hm]

/-- The high nibble of a flag byte is its four flags. -/
theorem flagByte_and_high (z n h c : Bool) (v w : Byte) : flagByte z n h c v &&& 0xF0 = flagByte z n h c w &&& 0xF0 := by
  refine and_eq_and_of_bitAt fun i hi hmask => ?_
  rw [bitAt_flagByte _ _ _ _ _ hi, bitAt_flagByte _ _ _ _ _ hi]
  interval_cases i <;> simp_all [bitAt]

/-- The top three bits of a flag byte are Z, N and H. -/
theorem flagByte_and_znh (z n h c c' : Bool) (v w : Byte) :
    flagByte z n h c v &&& 0xE0 = flagByte z n h c' w &&& 0xE0 := by
  refine and_eq_and_of_bitAt fun i hi hmask => ?_
  rw [bitAt_flagByte _ _ _ _ _ hi, bitAt_flagByte _ _ _ _ _ hi]
  interval_cases i <;> simp_all [bitAt]

/-! ## The shared operations -/

theorem AgreeOffF.agreeOn_zero {s t : State} (h : AgreeOffF s t) : AgreeOn 0x00 s t :=
  ⟨h, BitVec.and_zero.trans BitVec.and_zero.symm⟩

/-- The operands a meaning resolves: neither F nor the byte AF addresses. -/
def OffF (o : Operand) : Prop := o ≠ .reg .f ∧ o ≠ .mem .af

theorem offF_slotOperand (q : Slot) : OffF (slotOperand q) := ⟨slotOperand_ne_f q, by cases q <;> simp [slotOperand]⟩

theorem offF_reg (r : GReg) : OffF (.reg r.toReg) := offF_slotOperand (.reg r)

theorem offF_indPair (p : IndPair) : OffF (.mem p.toPair) := ⟨by simp, by cases p <;> simp [IndPair.toPair]⟩

section
variable (s : State) (v : Byte)

theorem pair_withF {p : Pair} (hp : p ≠ .af) : ({ s with f := v } : State).pair p = s.pair p := by
  cases p with
  | af => exact absurd rfl hp
  | bc | de | hl => rfl

theorem readOperand_withF {o : Operand} (ho : OffF o) : readOperand o { s with f := v } = readOperand o s := by
  cases o with
  | reg r => exact reg_withF s v (fun h => ho.1 (h ▸ rfl))
  | mem p => exact congrArg s.memRead (pair_withF s v (fun h => ho.2 (h ▸ rfl)))

theorem writeOperand_withF {o : Operand} (ho : OffF o) (x : Byte) :
    writeOperand o x { s with f := v } = { writeOperand o x s with f := v } := by
  cases o with
  | reg r =>
    cases r with
    | f => exact absurd rfl ho.1
    | a | b | c | d | e | h | l => rfl
  | mem p => rw [writeOperand, pair_withF s v (fun h => ho.2 (h ▸ rfl))]; rfl

theorem writeOperand_agreeOffF {o : Operand} (ho : OffF o) {x y : Byte} (hxy : y = x) :
    AgreeOffF (writeOperand o x s) (writeOperand o y { s with f := v }) := by
  rw [hxy, writeOperand_withF s v ho]
  rfl

theorem move_agreeOffF {dst src : Operand} (hd : OffF dst) (hs : OffF src) :
    AgreeOffF (move dst src s) (move dst src { s with f := v }) :=
  writeOperand_agreeOffF s v hd (readOperand_withF s v hs)

/-- A binary function that ignores the carry-in has one result. -/
theorem binaryFn_of_not_usesCarryIn {fn : AluFn} (h : usesCarryIn fn = false) (a b : Byte) (x y : Bool) :
    binaryFn fn a b x = binaryFn fn a b y := by
  cases fn with
  | adc | sbc => cases h
  | add | sub | and | xor | or => rfl

/-- `ExecuteBinary` reads of F the carry flag at most, and writes the four flags (42_alu_binary.md R152, R156). -/
theorem executeBinary_agreeOn {fn : AluFn} (b : Byte)
    (hC : usesCarryIn fn = false ∨ s.flagC = ({ s with f := v } : State).flagC) :
    AgreeOn 0xF0 (executeBinary params fn b s) (executeBinary params fn b { s with f := v }) := by
  have hres : binaryFn fn s.a b s.flagC = binaryFn fn s.a b ({ s with f := v } : State).flagC := by
    rcases hC with hC | hC
    · exact binaryFn_of_not_usesCarryIn hC _ _ _ _
    · rw [hC]
  rw [executeBinary_eq, executeBinary_eq]
  simp only [binaryResult, Bool.false_and, ← hres]
  cases fn with
  | add | adc | sub | sbc | and | xor | or => exact ⟨rfl, flagByte_and_high _ _ _ _ _ _⟩

/-- `ExecuteUnary` does not read F. -/
theorem executeUnary_agreeOn (fn : UnaryFn) {o : Operand} (ho : OffF o) :
    AgreeOn (unaryFlags fn) (executeUnary params fn o s) (executeUnary params fn o { s with f := v }) := by
  rw [executeUnary_eq fn o _ ho.1, executeUnary_eq fn o _ ho.1]
  simp only [readOperand_withF s v ho, writeOperand_withF s v ho]
  cases fn with
  | inc | dec => exact ⟨rfl, flagByte_and_znh _ _ _ _ _ _ _⟩
  | swap => exact ⟨rfl, flagByte_and_high _ _ _ _ _ _⟩

/-- `TestBit` does not read F. -/
theorem testBit_agreeOn {o : Operand} (ho : OffF o) (b : Oct) :
    AgreeOn 0xE0 (testBit params o b s) (testBit params o b { s with f := v }) := by
  rw [testBit_eq, testBit_eq, readOperand_withF s v ho]
  exact ⟨rfl, flagByte_and_znh _ _ _ _ _ _ _⟩

/-- POP reads no flag, and POP AF overwrites all of F. -/
theorem pop_agreeOn (p : Pair) : AgreeOn (writtenFlags (.pop p)) (pop params p s) (pop params p { s with f := v }) := by
  cases p with
  | af => exact ⟨rfl, rfl⟩
  | bc | de | hl => exact AgreeOffF.agreeOn_zero rfl

/-- Every form but PUSH AF, from two states that differ in F: C counts where the form takes the carry-in, and no other bit. -/
theorem perform_withF_agreeOn {form : Form} (hC : readsCarry form = false ∨ s.flagC = ({ s with f := v } : State).flagC)
    (hpush : form ≠ .push .af) : AgreeOn (writtenFlags form) (perform form s) (perform form { s with f := v }) := by
  have hHl : OffF (.mem .hl) := offF_slotOperand .memHl
  cases form with
  | nop => exact AgreeOffF.agreeOn_zero rfl
  | ldImm r n => exact (writeOperand_agreeOffF s v (offF_reg r) rfl).agreeOn_zero
  | ldReg dst r => exact (move_agreeOffF s v (offF_reg dst) (offF_reg r)).agreeOn_zero
  | ldFromHl dst => exact (move_agreeOffF s v (offF_reg dst) hHl).agreeOn_zero
  | ldToHl r => exact (move_agreeOffF s v hHl (offF_reg r)).agreeOn_zero
  | ldAFrom p => exact (move_agreeOffF s v (offF_reg .a) (offF_indPair p)).agreeOn_zero
  | ldATo p => exact (move_agreeOffF s v (offF_indPair p) (offF_reg .a)).agreeOn_zero
  | alu fn q =>
    simp only [perform, binaryOn, readOperand_withF s v (offF_slotOperand q)]
    exact executeBinary_agreeOn s v _ hC
  | aluImm fn n => exact executeBinary_agreeOn s v n hC
  | unary fn q =>
    rw [writtenFlags_unary]
    exact executeUnary_agreeOn s v fn (offF_slotOperand q)
  | bitOp fn b q =>
    have hq := offF_slotOperand q
    have hread := readOperand_withF s v hq
    cases fn with
    | test => exact testBit_agreeOn s v hq b
    | reset => exact (writeOperand_agreeOffF s v hq (by rw [hread])).agreeOn_zero
    | set => exact (writeOperand_agreeOffF s v hq (by rw [hread])).agreeOn_zero
  | push p =>
    have hpair : ({ s with f := v } : State).pair p = s.pair p := pair_withF s v (fun h => hpush (h ▸ rfl))
    simp only [perform, push, hpair]
    exact AgreeOffF.agreeOn_zero rfl
  | pop p => exact pop_agreeOn s v p
  | rst t => exact AgreeOffF.agreeOn_zero rfl

end

/-- `perform_withF_agreeOn` for any two states that differ in F at most. -/
theorem AgreeOffF.perform_agreeOn {s s' : State} (h : AgreeOffF s s') {form : Form}
    (hC : readsCarry form = false ∨ s.flagC = s'.flagC) (hpush : form ≠ .push .af) :
    AgreeOn (writtenFlags form) (perform form s) (perform form s') := by
  unfold AgreeOffF at h
  rw [← h] at hC ⊢
  exact perform_withF_agreeOn s s'.f hC hpush

/-! ## The carry detector -/

/-- Writing one bit keeps two bytes alike at a position where they are alike. -/
theorem bitAt_putBit_congr {u v : Byte} {j : Nat} (h : bitAt u j = bitAt v j) (i : Nat) (x : Bool) :
    bitAt (putBit u i x) j = bitAt (putBit v i x) j := by
  by_cases hj : j < 8
  · rw [bitAt_putBit hj, bitAt_putBit hj, h]
  · rw [bitAt, bitAt, BitVec.getLsbD_of_ge _ _ (by omega), BitVec.getLsbD_of_ge _ _ (by omega)]

/-- The bit just written does not depend on what the byte held, at any position. -/
theorem bitAt_putBit_self (u v : Byte) (i : Nat) (x : Bool) : bitAt (putBit u i x) i = bitAt (putBit v i x) i := by
  by_cases hi : i < 8
  · rw [bitAt_putBit hi, bitAt_putBit hi, if_pos rfl, if_pos rfl]
  · rw [bitAt, bitAt, BitVec.getLsbD_of_ge _ _ (by omega), BitVec.getLsbD_of_ge _ _ (by omega)]

/-- The detector reads of the state N only, at every value of the parameters (42_alu_binary.md R156). -/
theorem detectCarries_congr (cfg : Params) (lhs rhs : Byte) (cin : Bool) {s s' : State} (hN : s.flagN cfg = s'.flagN cfg) :
    (detectCarries cfg lhs rhs cin s).flagH cfg = (detectCarries cfg lhs rhs cin s').flagH cfg ∧
    (detectCarries cfg lhs rhs cin s).flagC cfg = (detectCarries cfg lhs rhs cin s').flagC cfg := by
  simp only [detectCarries, hN, State.flagH, State.flagC, setC_f, setH_f]
  exact ⟨bitAt_putBit_congr (bitAt_putBit_self _ _ _ _) _ _, bitAt_putBit_self _ _ _ _⟩

/-- The detector of the machine: it keeps N, and H and C are those of the two operands (CARRY_IN_FLAGS = false). -/
theorem detectCarries_params (lhs rhs : Byte) (cin : Bool) (s : State) :
    (detectCarries params lhs rhs cin s).flagN = s.flagN ∧
    (detectCarries params lhs rhs cin s).flagH = (carryVector s.flagN lhs rhs 0).getLsbD 4 ∧
    (detectCarries params lhs rhs cin s).flagC = (carryVector s.flagN lhs rhs 0).getLsbD 8 := by
  have hcarry : params.carryInFlags = false := rfl
  simp [detectCarries, hcarry, State.flagN, State.flagH, State.flagC, bitAt_putBit]

/-- The policy of a function with a carry handler says in N whether it subtracts (42_alu_binary.md R154, R157). -/
theorem flagN_binaryPolicy {fn : AluFn} (h : hasCarryHandler fn = true) (s : State) :
    (binaryPolicy params fn s).flagN = decide (fn = .sub ∨ fn = .sbc) := by
  cases fn with
  | and | xor | or => cases h
  | add | adc | sub | sbc => simp [binaryPolicy, State.flagN, bitAt_putBit]

theorem executeBinary_carryFlags {fn : AluFn} (h : hasCarryHandler fn = true) (b : Byte) (s : State) :
    (executeBinary params fn b s).flagN = decide (fn = .sub ∨ fn = .sbc) ∧
    (executeBinary params fn b s).flagH = (carryVector (decide (fn = .sub ∨ fn = .sbc)) s.a b 0).getLsbD 4 ∧
    (executeBinary params fn b s).flagC = (carryVector (decide (fn = .sub ∨ fn = .sbc)) s.a b 0).getLsbD 8 := by
  rw [executeBinary, if_pos h, ← flagN_binaryPolicy h]
  exact detectCarries_params _ _ _ _

end Sys2Proof.Machine
end

section
/-! SUPPORT. Which two registers are a pair (10_state.md R21; 40_operand_resolution.md R110, R113). -/

namespace Sys2Proof.Machine

theorem regIndex_lt (r : Reg) : regIndex r < 8 := by cases r <;> decide

theorem regAt_regIndex (r : Reg) : regAt (regIndex r) = some r := by cases r <;> rfl

theorem regIndex_inj {r q : Reg} : regIndex r = regIndex q ↔ r = q :=
  ⟨fun h => by simpa [regAt_regIndex] using congrArg regAt h, fun h => h ▸ rfl⟩

/-- The bits of the mask of two registers are those of the two. -/
theorem bitAt_regMask_or (r q x : Reg) : bitAt (regMask r ||| regMask q) (regIndex x) = true ↔ r = x ∨ q = x := by
  have hr := bitAt_bitMask (i := regIndex r) (regIndex_lt x)
  have hq := bitAt_bitMask (i := regIndex q) (regIndex_lt x)
  simp only [bitAt] at hr hq
  simp [bitAt, regMask, hr, hq, regIndex_inj]

theorem pairMask_of_maskPair {m : RegMask} {p : Pair} (h : maskPair m = some p) : m = pairMask p := by
  unfold maskPair at h
  split_ifs at h with haf hbc hde hhl
  all_goals
    cases h
    assumption

/-- Two registers whose masks make up a pair's mask are the pair's registers. -/
theorem pair_of_regMask_or {r q : Reg} {p : Pair} (h : regMask r ||| regMask q = pairMask p) :
    (p.hi = r ∧ p.lo = q) ∨ (p.hi = q ∧ p.lo = r) := by
  have hmem : ∀ x, r = x ∨ q = x ↔ p.hi = x ∨ p.lo = x := fun x => by
    rw [← bitAt_regMask_or, h, pairMask, bitAt_regMask_or]
  have hne := Pair.hi_ne_lo p
  rcases (hmem p.hi).mpr (.inl rfl) with hhi | hhi <;> rcases (hmem p.lo).mpr (.inr rfl) with hlo | hlo
  · exact absurd (hhi.symm.trans hlo) hne
  · exact .inl ⟨hhi.symm, hlo.symm⟩
  · exact .inr ⟨hhi.symm, hlo.symm⟩
  · exact absurd (hhi.symm.trans hlo) hne

theorem composeAddress_pairMask (p : Pair) (s : State) : composeAddress (pairMask p) s = some (s.pair p) := by
  cases p <;> rfl

/-- Two registers that are no pair compose no address (40_operand_resolution.md R119, D30). -/
theorem composeAddress_of_not_pair {r q : Reg} (h : ∀ p : Pair, ¬ (p.hi = r ∧ p.lo = q) ∧ ¬ (p.hi = q ∧ p.lo = r))
    (s : State) : composeAddress (regMask r ||| regMask q) s = none := by
  have hnone : maskPair (regMask r ||| regMask q) = none := by
    rw [Option.eq_none_iff_forall_ne_some]
    intro p hp
    rcases pair_of_regMask_or (pairMask_of_maskPair hp) with hpq | hpq
    · exact (h p).1 hpq
    · exact (h p).2 hpq
  rw [composeAddress, hnone]
  rfl

end Sys2Proof.Machine
end

section
/-! SUPPORT. The statements on the state (10_state.md): `pc`, frames, flags, pairs and the reset values. -/

namespace Sys2Proof.Machine

/-- Settles O12: a row with a form moves `pc` as `perform_control` says, from past the bytes fetched, and a row without one leaves
it there (`step_fault_pc`). -/
theorem stepMovesPc : Obligations.StepMovesPc := by
  intro s t hr hstep
  cases hfetch : (fetchInstr s).1.form with
  | none =>
    refine ⟨by rintro _ ⟨⟩, fun _ => ⟨?_, encode_fetchInstr_length_cases s⟩⟩
    rw [step_fault_pc hr hstep hfetch, fetchInstr_snd_pc]
  | some form =>
    have ht : perform form (fetchInstr s).2 = t := by simpa [step_of_form hr hfetch] using hstep
    have hpc : t.pc = pcAfter form (fetchInstr s).2.pc := ht ▸ (perform_control form _).1
    refine ⟨?_, fun hrst => ⟨?_, encode_fetchInstr_length_cases s⟩⟩
    · rintro y ⟨⟩
      exact hpc
    · rw [hpc, pcAfter_of_ne_rst (fun y h => hrst y (h ▸ rfl)), fetchInstr_snd_pc]

/-- Settles O22: every form has its frame (`frame_perform`) and its control state (`perform_control`). -/
theorem wiredFormsCompleteWithinFrame : Obligations.WiredFormsCompleteWithinFrame := by
  intro form s
  have hframe := frame_perform form s
  obtain ⟨hpc, hsp, hstatus⟩ := perform_control form s
  exact ⟨perform form s, exec_form form s, hframe.reg, hframe.flags, hsp,
    fun hrst => hpc.trans (pcAfter_of_ne_rst hrst s.pc), hstatus, hframe.mem⟩

/-- The next state of a wired instruction is the one its form gives. -/
theorem perform_of_exec {form : Form} {s t : State} (h : exec form.instr s = .next t) : perform form s = t := by
  simpa [exec_form] using h

/-- PUSH AF leaves the whole of F at the address below `sp`. -/
theorem memRead_pushAf {s : State} (hm : s.mem.wf) : (push params .af s).memRead (s.sp - 1) = s.f := by
  show (push16 (s.pair .af) s).memRead (s.sp - 1) = s.f
  rw [memRead_push16 hm, if_pos rfl]
  exact loByte_joinBytes s.a s.f

/-- Settles O23: `AgreeOffF.perform_agreeOn` for the next states, `detectCarries_congr` and `executeBinary_carryFlags` for the
detector, `perform_control` for `pc` and `status`, and `memRead_pushAf` for the one instruction that stores F. -/
theorem onlyAdcSbcPushAfReadFlags : Obligations.OnlyAdcSbcPushAfReadFlags := by
  refine ⟨?others, ?equalCarry, ?slots, ?immediates, ?handler, ?detector, ?control, ?pushAf⟩
  case others =>
    intro form s s' t t' hagree hadc hadcImm hsbc hsbcImm hpush ht ht'
    rw [← perform_of_exec ht, ← perform_of_exec ht']
    exact hagree.perform_agreeOn (.inl (readsCarry_eq_false hadc hadcImm hsbc hsbcImm)) hpush
  case equalCarry =>
    intro form s s' t t' hagree hC hpush ht ht'
    rw [← perform_of_exec ht, ← perform_of_exec ht']
    exact hagree.perform_agreeOn (.inr hC) hpush
  case slots =>
    intro q s
    exact ⟨_, _, exec_form _ s, exec_form _ s, rfl, rfl⟩
  case immediates =>
    intro n s
    exact ⟨_, _, exec_form _ s, exec_form _ s, rfl, rfl⟩
  case handler =>
    intro fn b s h t
    obtain ⟨hN, hH, hC⟩ := executeBinary_carryFlags h b s
    exact ⟨hN, hN ▸ hH, hN ▸ hC⟩
  case detector =>
    intro cfg lhs rhs cin s s' hN
    exact detectCarries_congr cfg lhs rhs cin hN
  case control =>
    intro form s s' t t' hagree ht ht'
    obtain ⟨hpc, -, hstatus⟩ := perform_control form s
    obtain ⟨hpc', -, hstatus'⟩ := perform_control form s'
    have hsame : s'.pc = s.pc ∧ s'.status = s.status := ⟨hagree ▸ rfl, hagree ▸ rfl⟩
    rw [← perform_of_exec ht, ← perform_of_exec ht', hpc, hpc', hstatus, hstatus', hsame.1, hsame.2]
    exact ⟨rfl, rfl⟩
  case pushAf =>
    intro s hm
    exact ⟨_, exec_form (.push .af) s, memRead_pushAf hm⟩

/-- Two bytes that agree under a mask, and elsewhere are what two bytes that agree under `m` were, agree under `m`. -/
theorem and_eq_and_of_frame {w m u u' v v' : Byte} (hw : u &&& w = u' &&& w) (hu : u &&& ~~~w = v &&& ~~~w)
    (hu' : u' &&& ~~~w = v' &&& ~~~w) (hv : v &&& m = v' &&& m) : u &&& m = u' &&& m := by
  refine and_eq_and_of_bitAt fun i hi hm => ?_
  have hwi := congrArg (bitAt · i) hw
  have hui := congrArg (bitAt · i) hu
  have hui' := congrArg (bitAt · i) hu'
  have hvi := congrArg (bitAt · i) hv
  simp only [bitAt, BitVec.getLsbD_and, BitVec.getLsbD_not, hi, decide_true, Bool.true_and] at hm hwi hui hui' hvi ⊢
  cases hwb : w.getLsbD i <;> simp_all

/-- Settles O24: the bits of F a form writes agree after it (`AgreeOffF.perform_agreeOn`, since C is in the high nibble), and the
others are what they were (`frame_perform`). -/
theorem lowNibbleOfFIsInert : Obligations.LowNibbleOfFIsInert := by
  rintro form s s' t t' ⟨hagree, hhigh⟩ hpush ht ht'
  have hC : s.flagC = s'.flagC := by
    have hbit := congrArg (bitAt · 4) hhigh
    simpa [bitAt, State.flagC] using hbit
  rw [← perform_of_exec ht, ← perform_of_exec ht']
  obtain ⟨hoff, hwritten⟩ := hagree.perform_agreeOn (.inr hC) hpush
  exact ⟨hoff, and_eq_and_of_frame hwritten (frame_perform form s).flags (frame_perform form s').flags hhigh⟩

/-- Settles O43: the views are concatenations (`joinBytes_toNat`, `hiByte_joinBytes`, `loByte_joinBytes`), and a mask that composes
an address is a pair's (`composeAddress_of_not_pair`). -/
theorem pairsAreViews : Obligations.PairsAreViews := by
  refine ⟨⟨rfl, rfl, rfl, rfl, rfl, rfl, rfl, rfl⟩, fun p s v x => ?_, fun r q s h => composeAddress_of_not_pair h s⟩
  have hne := Pair.hi_ne_lo p
  have hview : (s.setPair p x).pair p = x := by
    rw [State.setPair, pair_setReg_setReg, joinBytes_hiByte_loByte]
  refine ⟨joinBytes_toNat _ _, ?_, ?_, ?_, ?_, hview, ?_, ?_, composeAddress_pairMask p s⟩
  · rw [State.pair, hiByte_joinBytes, reg_setReg_same]
  · rw [State.pair, State.pair, loByte_joinBytes, loByte_joinBytes, reg_setReg_other _ _ hne.symm]
  · rw [State.pair, loByte_joinBytes, reg_setReg_same]
  · rw [State.pair, State.pair, hiByte_joinBytes, hiByte_joinBytes, reg_setReg_other _ _ hne]
  · rw [State.setPair, reg_setReg_other _ _ hne, reg_setReg_same]
  · rw [State.setPair, reg_setReg_same]

/-- Settles O48: `Reset()` gives each register and control value of `State.reset`, and the flags are bits of the byte 0. -/
theorem resetState : Obligations.ResetState := by
  have hreg : ∀ r, State.reset.reg r = 0x00 := fun r => by cases r <;> rfl
  have hkeep : ∀ (s : State) r, (hostReset s).reg r = State.reset.reg r := fun s r => by cases r <;> rfl
  have hflag : ∀ i, bitAt 0x00 i = false := fun _ => BitVec.getLsbD_zero
  exact ⟨⟨hreg, hflag 7, hflag 6, hflag 5, hflag 4, rfl, rfl, rfl⟩, fun _ => rfl, fun s =>
    ⟨⟨fun r => (hkeep s r).trans (hreg r), hflag 7, hflag 6, hflag 5, hflag 4, rfl, rfl, rfl⟩, fun _ => rfl⟩⟩

/-- Settles O53: empty memory is canonical (`Memory.nil_wf`), and a running state has no record to answer for. -/
theorem resetMeetsInvariant : Obligations.ResetMeetsInvariant := ⟨Memory.nil_wf, trivial⟩

end Sys2Proof.Machine
end

section
/-! SUPPORT. A canonical memory is known by what it reads as (20_memory.md R52, R53). -/

namespace Sys2Proof.Machine

/-- A cell that does not read as an unlisted one is in the list. -/
theorem mem_of_cellAt {m : Memory} {k : Nat} {v : Byte} (h : Memory.cellAt m k = v) (hv : v ≠ Memory.unlisted) :
    (k, v) ∈ m := by
  induction m with
  | nil => exact absurd h.symm hv
  | cons y m ih =>
    obtain ⟨k', w⟩ := y
    rw [Memory.cellAt] at h
    split_ifs at h with hk
    · simp [hk, h]
    · exact List.mem_cons_of_mem _ (ih h)

/-- The cells of a canonical memory are the addresses that do not read as unlisted, with their bytes. -/
theorem mem_iff_read {m : Memory} (hm : m.wf) (x : Host.Cell) :
    x ∈ m ↔ x.1 < Config.memSize ∧ x.2 ≠ Memory.unlisted ∧ m.read (BitVec.ofNat 16 x.1) = x.2 := by
  have hread (hx : x.1 < Config.memSize) : m.read (BitVec.ofNat 16 x.1) = Memory.cellAt m x.1 := by
    rw [Memory.read, BitVec.toNat_ofNat]
    exact congrArg _ (Nat.mod_eq_of_lt hx)
  constructor
  · intro h
    obtain ⟨hx, hv⟩ := hm.2 x h
    exact ⟨hx, hv, (hread hx).trans (cellAt_eq_of_mem hm h)⟩
  · rintro ⟨hx, hv, h⟩
    exact mem_of_cellAt ((hread hx).symm.trans h) hv

theorem memory_ext {m m' : Memory} (hm : m.wf) (hm' : m'.wf) (h : ∀ addr : Word, m.read addr = m'.read addr) : m = m' := by
  exact hm.1.eq_of_mem_iff hm'.1 fun x => by rw [mem_iff_read hm, mem_iff_read hm', h]

end Sys2Proof.Machine
end

section
/-! SUPPORT. The shape of a step's transactions (20_memory.md R58): fetches, then reads, then writes. -/

namespace Sys2Proof.Machine

/-- The reads of a list of addresses, each with the byte memory holds there. -/
def readsAt (s : State) (addrs : List Word) : List BusOp := addrs.map fun addr => .read addr (s.memRead addr)

/-- The writes of a list of bytes to addresses. -/
def writesOf (stores : List (Word × Byte)) : List BusOp := stores.map fun w => .write w.1 w.2

theorem readsAgree_readsAt (s : State) (addrs : List Word) : readsAgree (readsAt s addrs) s.mem := by
  induction addrs with
  | nil => trivial
  | cons _ _ ih => exact ⟨rfl, ih⟩

theorem readsAgree_writesOf (stores : List (Word × Byte)) (m : Memory) : readsAgree (writesOf stores) m := by
  induction stores generalizing m with
  | nil => trivial
  | cons _ _ ih => exact ih _

theorem readAddrs_append (xs ys : List BusOp) : readAddrs (xs ++ ys) = readAddrs xs ++ readAddrs ys := by
  induction xs with
  | nil => rfl
  | cons x xs ih => cases x <;> simp [readAddrs, ih]

theorem phase_of_mem_readsAt {s : State} {addrs : List Word} {x : BusOp} (h : x ∈ readsAt s addrs) : x.phase = 1 := by
  obtain ⟨addr, -, rfl⟩ := List.mem_map.mp h
  rfl

theorem phase_of_mem_writesOf {stores : List (Word × Byte)} {x : BusOp} (h : x ∈ writesOf stores) : x.phase = 2 := by
  obtain ⟨w, -, rfl⟩ := List.mem_map.mp h
  rfl

theorem phase_of_mem_fetchTrace {s : State} {x : BusOp} (h : x ∈ fetchTrace s) : x.phase = 0 := by
  simp only [fetchTrace] at h
  split_ifs at h
  · obtain rfl | rfl : x = _ ∨ x = _ := by simpa using h
    all_goals rfl
  · obtain rfl := List.mem_singleton.mp h
    rfl

/-- Transactions of one phase are in order. -/
theorem pairwise_phase_of_const {n : Nat} {xs : List BusOp} (h : ∀ x ∈ xs, x.phase = n) :
    xs.Pairwise (fun x y => x.phase ≤ y.phase) :=
  List.pairwise_of_forall_mem_list fun x hx y hy => (h x hx).trans_le (h y hy).ge

/-- The transactions of a form are reads followed by writes, two at most together. -/
theorem dataTrace_shape (form : Form) (s : State) : ∃ addrs stores,
    dataTrace form s = readsAt s addrs ++ writesOf stores ∧ addrs.length + stores.length ≤ 2 := by
  cases form with
  | nop | ldImm | ldReg | aluImm => exact ⟨[], [], rfl, by simp⟩
  | ldFromHl => exact ⟨[s.pair .hl], [], rfl, by simp⟩
  | ldToHl r => exact ⟨[], [(s.pair .hl, s.reg r.toReg)], rfl, by simp⟩
  | ldAFrom p => exact ⟨[s.pair p.toPair], [], rfl, by simp⟩
  | ldATo p => exact ⟨[], [(s.pair p.toPair, s.a)], rfl, by simp⟩
  | alu fn q =>
    cases q with
    | reg => exact ⟨[], [], rfl, by simp⟩
    | memHl => exact ⟨[s.pair .hl], [], rfl, by simp⟩
  | unary fn q =>
    cases q with
    | reg => exact ⟨[], [], rfl, by simp⟩
    | memHl => exact ⟨[s.pair .hl], [(s.pair .hl, _)], rfl, by simp⟩
  | bitOp fn b q =>
    cases q with
    | reg => exact ⟨[], [], by cases fn <;> rfl, by simp⟩
    | memHl =>
      cases fn with
      | test => exact ⟨[s.pair .hl], [], rfl, by simp⟩
      | reset | set => exact ⟨[s.pair .hl], [(s.pair .hl, _)], rfl, by simp⟩
  | push p => exact ⟨[], [(s.sp, _), (s.sp - 1, _)], rfl, by simp⟩
  | pop p => exact ⟨[s.sp + 1, s.sp + 2], [], rfl, by simp⟩
  | rst t => exact ⟨[], [(s.sp, _), (s.sp - 1, _)], rfl, by simp⟩

theorem stepTrace_of_form {s : State} {form : Form} (hr : s.status = .running) (hform : (fetchInstr s).1.form = some form) :
    stepTrace s = fetchTrace s ++ dataTrace form (fetchInstr s).2 := by
  rw [stepTrace_running hr, hform]

theorem stepTrace_of_no_form {s : State} (hr : s.status = .running) (hform : (fetchInstr s).1.form = none) :
    stepTrace s = fetchTrace s := by
  rw [stepTrace_running hr, hform]

/-- Fetching reads memory and does not change it. -/
theorem memRead_fetchInstr_snd (s : State) (addr : Word) : (fetchInstr s).2.memRead addr = s.memRead addr := by
  rw [fetchInstr_snd]
  rfl

/-- A step that runs a one-byte form fetches no second byte (30_encoding.md R81). -/
theorem hasSecondByte_of_formLength_one {s : State} {form : Form} (hi : (fetchInstr s).1 = form.instr) (h1 : formLength form = 1) :
    hasSecondByte (s.memRead s.pc) = false := by
  have hlen := encode_fetchInstr_length s
  rw [hi, encode_form_length, h1] at hlen
  by_contra hsecond
  simp [hsecond] at hlen

/-- The transactions of a running step are its fetches, then reads, then writes. -/
theorem stepTrace_shape {s : State} (hr : s.status = .running) : ∃ addrs stores,
    stepTrace s = fetchTrace s ++ (readsAt s addrs ++ writesOf stores) ∧ addrs.length + stores.length ≤ 2 := by
  cases hform : (fetchInstr s).1.form with
  | none => exact ⟨[], [], by simp [stepTrace_of_no_form hr hform, readsAt, writesOf], by decide⟩
  | some form =>
    obtain ⟨addrs, stores, htrace, hlen⟩ := dataTrace_shape form (fetchInstr s).2
    refine ⟨addrs, stores, ?_, hlen⟩
    simp only [stepTrace_of_form hr hform, htrace, readsAt, memRead_fetchInstr_snd]

/-- Every fetch and read of a step carries the byte memory holds at that point (20_memory.md R61). -/
theorem readsAgree_stepTrace {s : State} (hr : s.status = .running) : readsAgree (stepTrace s) s.mem := by
  obtain ⟨addrs, stores, htrace, -⟩ := stepTrace_shape hr
  obtain ⟨hwrites, hreads, -⟩ := fetchTrace_spec s
  rw [htrace, readsAgree_append, hwrites, readsAgree_append]
  exact ⟨hreads, readsAgree_readsAt s addrs, readsAgree_writesOf _ _⟩

theorem stepTrace_length {s : State} (hr : s.status = .running) : 1 ≤ (stepTrace s).length ∧ (stepTrace s).length ≤ 4 := by
  obtain ⟨addrs, stores, htrace, hlen⟩ := stepTrace_shape hr
  obtain ⟨-, -, hfetch⟩ := fetchTrace_spec s
  rw [htrace, List.length_append, List.length_append, hfetch, readsAt, writesOf, List.length_map, List.length_map]
  split <;> omega

/-- The transactions of a step are in the order of 20_memory.md R58. -/
theorem pairwise_phase_stepTrace {s : State} (hr : s.status = .running) :
    (stepTrace s).Pairwise (fun x y => x.phase ≤ y.phase) := by
  obtain ⟨addrs, stores, htrace, -⟩ := stepTrace_shape hr
  have hfetches : ∀ x ∈ fetchTrace s, x.phase = 0 := fun _ => phase_of_mem_fetchTrace
  have hreads : ∀ x ∈ readsAt s addrs, x.phase = 1 := fun _ => phase_of_mem_readsAt
  have hwrites : ∀ x ∈ writesOf stores, x.phase = 2 := fun _ => phase_of_mem_writesOf
  rw [htrace, List.pairwise_append, List.pairwise_append]
  refine ⟨pairwise_phase_of_const hfetches, ⟨pairwise_phase_of_const hreads, pairwise_phase_of_const hwrites, ?_⟩, ?_⟩
  · intro x hx y hy
    rw [hreads x hx, hwrites y hy]
    decide
  · intro x hx y _
    rw [hfetches x hx]
    exact Nat.zero_le _

/-- The step of a one-byte form makes one fetch before the transactions of the form. -/
theorem stepTrace_of_oneByte {s : State} {form : Form} (hr : s.status = .running) (hform : (fetchInstr s).1.form = some form)
    (h1 : formLength form = 1) :
    stepTrace s = .fetch s.pc (s.memRead s.pc) :: dataTrace form { s with pc := s.pc + 1 } := by
  have hsecond := hasSecondByte_of_formLength_one (instr_of_form hform).symm h1
  rw [stepTrace_of_form hr hform, fetchInstr_snd, fetchTrace, hsecond]
  rfl

end Sys2Proof.Machine
end

section
/-! SUPPORT. The writes of a step give the memory after it (20_memory.md R61). -/

namespace Sys2Proof.Machine

theorem pop_mem (p : Pair) (s : State) : (pop params p s).mem = s.mem := by
  rw [pop_params, State.setPair, setReg_mem, setReg_mem, pop16_snd_mem]

theorem executeUnary_mem (fn : UnaryFn) (q : Slot) (s : State) :
    (executeUnary params fn (slotOperand q) s).mem =
      (writeOperand (slotOperand q) (unaryOp fn (readOperand (slotOperand q) s)) s).mem := by
  rw [executeUnary_eq fn _ s (slotOperand_ne_f q)]

/-- A form leaves in memory what its writes give. -/
theorem perform_mem (form : Form) (s : State) : (perform form s).mem = applyWrites (dataTrace form s) s.mem := by
  cases form with
  | nop | ldAFrom | ldToHl | ldATo => rfl
  | ldImm r | ldReg r | ldFromHl r => exact setReg_mem s r.toReg _
  | alu fn q =>
    have hmem := executeBinary_mem params fn (readOperand (slotOperand q) s) s
    cases q <;> exact hmem
  | aluImm fn n => exact executeBinary_mem params fn n s
  | unary fn q =>
    refine (executeUnary_mem fn q s).trans ?_
    cases q with
    | reg r => exact setReg_mem s r.toReg _
    | memHl => rfl
  | bitOp fn b q =>
    cases q with
    | reg r =>
      cases fn with
      | test => rfl
      | reset | set => exact setReg_mem s r.toReg _
    | memHl => cases fn <;> rfl
  | push p => exact push16_mem _ s
  | pop p => exact pop_mem p s
  | rst t =>
    have hmem := push16_mem s.pc s (cfg := params)
    exact hmem

/-- Where a row has no form, its meaning is a fault that the bytes alone determine (46_dispatch.md R246, R247). -/
theorem exec_decodeBytes_of_no_form {op second : Byte} (hform : (decodeBytes op second).form = none) :
    ∃ kind byte ext, ∀ s, exec (decodeBytes op second) s = .next (raiseFault kind byte (s.pc - 1) ext s) := by
  by_cases hop : op = Config.prefixByte
  · rw [decodeBytes, if_pos hop] at hform ⊢
    rcases exec_decodeExtended_cases second with ⟨form, h⟩ | ⟨-, hexec⟩
    · simp [h] at hform
    · exact ⟨_, _, _, hexec⟩
  · rw [decodeBytes, if_neg hop] at hform ⊢
    rcases exec_decodePrimary_cases op second hop with ⟨form, h⟩ | ⟨-, -, hexec⟩ | ⟨-, -, hexec⟩
    · simp [h] at hform
    · exact ⟨_, _, _, hexec⟩
    · exact ⟨_, _, _, hexec⟩

/-- A step that fetches a row without a form takes a fault that the instruction fetched determines. -/
theorem exec_fetchInstr_of_no_form {s : State} (hform : (fetchInstr s).1.form = none) :
    ∃ kind byte ext, ∀ u, exec (fetchInstr s).1 u = .next (raiseFault kind byte (u.pc - 1) ext u) := by
  rw [fetchInstr_fst] at hform ⊢
  exact exec_decodeBytes_of_no_form hform

/-- The writes of a step, in order, give the memory after it. -/
theorem step_mem {s t : State} (hr : s.status = .running) (hstep : step s = .next t) :
    t.mem = applyWrites (stepTrace s) s.mem := by
  obtain ⟨hfetch, -, -⟩ := fetchTrace_spec s
  have hsnd : (fetchInstr s).2.mem = s.mem := by rw [fetchInstr_snd]
  cases hform : (fetchInstr s).1.form with
  | none =>
    obtain ⟨kind, byte, ext, hexec⟩ := exec_fetchInstr_of_no_form hform
    rw [step_running hr, hexec, Host.Outcome.next.injEq] at hstep
    rw [stepTrace_of_no_form hr hform, hfetch, ← hstep, raiseFault_mem, hsnd]
  | some form =>
    rw [step_of_form hr hform, Host.Outcome.next.injEq] at hstep
    rw [stepTrace_of_form hr hform, applyWrites_append, hfetch, ← hstep, perform_mem, hsnd]

end Sys2Proof.Machine
end

section
/-! SUPPORT. A step depends on memory through its fetches and reads alone (20_memory.md R61). -/

namespace Sys2Proof.Machine

/-- The two states differ in memory at most. -/
abbrev AgreeOffMem (s t : State) : Prop := { s with mem := t.mem } = t

/-- A write of F alike in both keeps two states agreeing off memory. -/
theorem AgreeOffMem.withF {s t : State} (h : AgreeOffMem s t) (v : Byte) :
    AgreeOffMem { s with f := v } { t with f := v } := congrArg (fun u : State => { u with f := v }) h

section
variable (s : State) (m : Memory)

theorem reg_withMem (r : Reg) : ({ s with mem := m } : State).reg r = s.reg r := by cases r <;> rfl

theorem pair_withMem (p : Pair) : ({ s with mem := m } : State).pair p = s.pair p := by cases p <;> rfl

theorem memRead_withMem (addr : Word) : ({ s with mem := m } : State).memRead addr = m.read addr := rfl

variable {s m}

theorem readOperand_withMem {o : Operand} (h : ∀ addr ∈ operandAddrs o s, m.read addr = s.memRead addr) :
    readOperand o { s with mem := m } = readOperand o s := by
  cases o with
  | reg r => exact reg_withMem s m r
  | mem p =>
    rw [readOperand, pair_withMem]
    exact h (s.pair p) (List.mem_singleton.mpr rfl)

variable (s m)

theorem writeOperand_withMem (o : Operand) (v : Byte) :
    AgreeOffMem (writeOperand o v { s with mem := m }) (writeOperand o v s) := by
  cases o with
  | reg r => cases r <;> rfl
  | mem p => rfl

theorem executeBinary_withMem (fn : AluFn) (b : Byte) :
    AgreeOffMem (executeBinary params fn b { s with mem := m }) (executeBinary params fn b s) := by cases fn <;> rfl

theorem pop_withMem (p : Pair) (h1 : m.read (s.sp + 1) = s.memRead (s.sp + 1)) (h2 : m.read (s.sp + 2) = s.memRead (s.sp + 2)) :
    AgreeOffMem (pop params p { s with mem := m }) (pop params p s) := by
  have hpopped : (pop16 ({ s with mem := m } : State)).1 = (pop16 s).1 := by
    rw [pop16_fst, pop16_fst]
    exact congrArg₂ joinBytes h2 h1
  rw [pop_params, pop_params, hpopped]
  cases p <;> rfl

variable {s m}

theorem move_withMem (dst : Operand) {src : Operand} (hread : readOperand src { s with mem := m } = readOperand src s) :
    AgreeOffMem (move dst src { s with mem := m }) (move dst src s) := by
  rw [move, move, hread]
  exact writeOperand_withMem s m dst _

theorem executeUnary_withMem (fn : UnaryFn) {o : Operand} (ho : o ≠ .reg .f)
    (hread : readOperand o { s with mem := m } = readOperand o s) :
    AgreeOffMem (executeUnary params fn o { s with mem := m }) (executeUnary params fn o s) := by
  rw [executeUnary_eq fn o _ ho, executeUnary_eq fn o _ ho, hread]
  exact (writeOperand_withMem s m o _).withF _

theorem testBit_withMem {o : Operand} (b : Oct) (hread : readOperand o { s with mem := m } = readOperand o s) :
    AgreeOffMem (testBit params o b { s with mem := m }) (testBit params o b s) := by
  rw [testBit_eq, testBit_eq, hread]
  rfl

/-- Where another memory agrees on the addresses a form reads, the form does the same with it but to memory. -/
theorem perform_withMem {form : Form} (h : ∀ addr ∈ readAddrs (dataTrace form s), m.read addr = s.memRead addr) :
    AgreeOffMem (perform form { s with mem := m }) (perform form s) := by
  cases form with
  | nop => rfl
  | ldImm r n => exact writeOperand_withMem s m (.reg r.toReg) n
  | ldReg _ r | ldToHl r => exact move_withMem _ (readOperand_withMem (o := .reg r.toReg) h)
  | ldFromHl => exact move_withMem _ (readOperand_withMem (o := .mem .hl) h)
  | ldAFrom p => exact move_withMem _ (readOperand_withMem (o := .mem p.toPair) h)
  | ldATo p => exact writeOperand_withMem s m _ _
  | alu fn q =>
    have hread : readOperand (slotOperand q) { s with mem := m } = readOperand (slotOperand q) s :=
      readOperand_withMem (by cases q <;> exact h)
    simp only [perform, binaryOn, hread]
    exact executeBinary_withMem s m fn _
  | aluImm fn n => exact executeBinary_withMem s m fn n
  | unary fn q =>
    exact executeUnary_withMem fn (slotOperand_ne_f q) (readOperand_withMem (by cases q <;> exact h))
  | bitOp fn b q =>
    have hread : readOperand (slotOperand q) { s with mem := m } = readOperand (slotOperand q) s :=
      readOperand_withMem (by cases q <;> cases fn <;> exact h)
    cases fn with
    | test => exact testBit_withMem b hread
    | reset | set =>
      simp only [perform, resetBit, setBit, hread]
      exact writeOperand_withMem s m _ _
  | push p =>
    simp only [perform, push, pair_withMem]
    rfl
  | pop p => exact pop_withMem s m p (h _ (by simp [dataTrace, readAddrs])) (h _ (by simp [dataTrace, readAddrs]))
  | rst t => rfl

/-- Where another memory agrees on the addresses a form reads, the form makes the same transactions. -/
theorem dataTrace_withMem {form : Form} (h : ∀ addr ∈ readAddrs (dataTrace form s), m.read addr = s.memRead addr) :
    dataTrace form { s with mem := m } = dataTrace form s := by
  cases form with
  | nop | ldImm | ldReg | aluImm | rst => rfl
  | ldFromHl => simp only [dataTrace, pair_withMem, memRead_withMem, h (s.pair .hl) List.mem_cons_self]
  | ldAFrom p => simp only [dataTrace, pair_withMem, memRead_withMem, h (s.pair p.toPair) List.mem_cons_self]
  | ldToHl | ldATo | push => simp only [dataTrace, pair_withMem, reg_withMem]
  | alu fn q =>
    cases q with
    | reg => rfl
    | memHl => simp only [dataTrace, pair_withMem, memRead_withMem, h (s.pair .hl) List.mem_cons_self]
  | unary fn q =>
    cases q with
    | reg => rfl
    | memHl => simp only [dataTrace, pair_withMem, memRead_withMem, h (s.pair .hl) List.mem_cons_self]
  | bitOp fn b q =>
    cases q with
    | reg => cases fn <;> rfl
    | memHl =>
      cases fn with
      | test | reset | set => simp only [dataTrace, pair_withMem, memRead_withMem, h (s.pair .hl) List.mem_cons_self]
  | pop p =>
    simp only [dataTrace, memRead_withMem, h (s.sp + 1) List.mem_cons_self,
      h (s.sp + 2) (List.mem_cons_of_mem _ List.mem_cons_self)]

/-- Where another memory agrees on the bytes a step fetches, the step makes the same fetches of the same instruction. -/
theorem fetch_withMem (h : ∀ addr ∈ readAddrs (fetchTrace s), m.read addr = s.memRead addr) :
    fetchTrace { s with mem := m } = fetchTrace s ∧ (fetchInstr { s with mem := m }).1 = (fetchInstr s).1 ∧
      (fetchInstr { s with mem := m }).2 = { (fetchInstr s).2 with mem := m } := by
  have hfirst : m.read s.pc = s.memRead s.pc := by
    refine h s.pc ?_
    rw [fetchTrace]
    split <;> exact List.mem_cons_self
  rw [fetchInstr_fst, fetchInstr_fst, fetchInstr_snd, fetchInstr_snd]
  simp only [fetchTrace, memRead_withMem, hfirst, and_true]
  cases hsecond : hasSecondByte (s.memRead s.pc) with
  | false => exact ⟨rfl, decodeBytes_second _ _ _ hsecond⟩
  | true =>
    have hnext : m.read (s.pc + 1) = s.memRead (s.pc + 1) := h (s.pc + 1) (by simp [fetchTrace, hsecond, readAddrs])
    rw [hnext]
    exact ⟨rfl, rfl⟩

/-- Where another memory agrees on the addresses a step fetches and reads, the step makes the same transactions and gives the
same state but for memory. -/
theorem step_withMem {t : State} (hr : s.status = .running) (hstep : step s = .next t)
    (h : ∀ addr ∈ readAddrs (stepTrace s), m.read addr = s.memRead addr) :
    stepTrace { s with mem := m } = stepTrace s ∧ ∃ u, step { s with mem := m } = .next u ∧ AgreeOffMem u t := by
  have hr' : ({ s with mem := m } : State).status = .running := hr
  cases hform : (fetchInstr s).1.form with
  | none =>
    rw [stepTrace_of_no_form hr hform] at h ⊢
    obtain ⟨htrace, hinstr, hfetched⟩ := fetch_withMem h
    obtain ⟨kind, byte, ext, hexec⟩ := exec_fetchInstr_of_no_form hform
    rw [step_running hr, hexec, Host.Outcome.next.injEq] at hstep
    rw [stepTrace_of_no_form hr' (by rw [hinstr, hform]), htrace, step_running hr', hinstr, hexec, hfetched, ← hstep]
    exact ⟨rfl, _, rfl, rfl⟩
  | some form =>
    rw [stepTrace_of_form hr hform] at h ⊢
    rw [readAddrs_append] at h
    obtain ⟨htrace, hinstr, hfetched⟩ := fetch_withMem fun addr ha => h addr (List.mem_append_left _ ha)
    have hreads : ∀ addr ∈ readAddrs (dataTrace form (fetchInstr s).2), m.read addr = (fetchInstr s).2.memRead addr := by
      intro addr ha
      rw [memRead_fetchInstr_snd, h addr (List.mem_append_right _ ha)]
    have hform' : (fetchInstr { s with mem := m }).1.form = some form := by rw [hinstr, hform]
    rw [step_of_form hr hform, Host.Outcome.next.injEq] at hstep
    rw [stepTrace_of_form hr' hform', htrace, step_of_form hr' hform', hfetched, dataTrace_withMem hreads, ← hstep]
    exact ⟨rfl, _, rfl, perform_withMem hreads⟩

end

end Sys2Proof.Machine
end

section
/-! SUPPORT. The statements on memory and the bus (20_memory.md). -/

namespace Sys2Proof.Machine

/-- PUSH stores the high byte first, then the low byte one below. -/
theorem stepTrace_push {s : State} {p : Pair} (hr : s.status = .running) (hform : (fetchInstr s).1.form = some (.push p)) :
    stepTrace s = [.fetch s.pc (s.memRead s.pc), .write s.sp (s.reg p.hi), .write (s.sp - 1) (s.reg p.lo)] := by
  have hpair : ({ s with pc := s.pc + 1 } : State).pair p = joinBytes (s.reg p.hi) (s.reg p.lo) := by cases p <;> rfl
  rw [stepTrace_of_oneByte hr hform rfl]
  simp only [dataTrace, hpair, hiByte_joinBytes, loByte_joinBytes]

/-- Settles O44: the bus is `Memory.read` and `Memory.write`, and canonical memories are equal by `memory_ext`. -/
theorem busReadsLastWrite : Obligations.BusReadsLastWrite :=
  ⟨fun s addr v hm => ⟨Memory.read_write_same hm addr v, memWrite_wf hm addr v, fun _ h => memRead_memWrite_other s v h, rfl⟩,
    fun _ _ hm hm' h => memory_ext hm hm' h⟩

/-- Settles O13: the step is LD (HL),r in the state with `pc` one on, and the next fetch reads at HL the byte it stored. -/
theorem storeIsSeenByNextFetch : Obligations.StoreIsSeenByNextFetch := by
  intro s r hm hr hi hhl
  have hfetch : (fetchInstr s).2 = { s with pc := s.pc + 1 } := by
    rw [fetchInstr_snd, hasSecondByte_of_formLength_one hi rfl]
    rfl
  have hstep : step s = .next (({ s with pc := s.pc + 1 } : State).memWrite (s.pc + 1) (s.reg r.toReg)) := by
    rw [step_running hr, hi, exec_form, hfetch, ← hhl]
    cases r <;> rfl
  refine ⟨_, hstep, ?_⟩
  have hpc : s.pc + 1 + 1 = s.pc + 2 := by bv_omega
  rw [fetchInstr_fst]
  exact congrArg₂ decodeBytes (Memory.read_write_same hm _ _) (congrArg _ hpc)

/-- Settles O25: the writes give the memory (`step_mem`), the reads and their order follow from the shape of the transactions
(`stepTrace_shape`), another memory is `step_withMem`, and the stack forms have one fetch (`stepTrace_of_oneByte`). -/
theorem busTraceExplainsStep : Obligations.BusTraceExplainsStep := by
  intro s t hr hstep
  obtain ⟨hpos, hle⟩ := stepTrace_length hr
  refine ⟨step_mem hr hstep, readsAgree_stepTrace hr, hpos, hle, fun m h => step_withMem hr hstep h,
    pairwise_phase_stepTrace hr, fun form hform => ⟨?_, ?_, ?_⟩⟩
  · rintro p rfl
    exact stepTrace_push hr hform
  · rintro y rfl
    exact stepTrace_of_oneByte hr hform rfl
  · rintro p rfl
    exact stepTrace_of_oneByte hr hform rfl

end Sys2Proof.Machine
end

section
/-! SUPPORT. What the decoder accepts and rejects (30_encoding.md R81, R98), and the statements on the encoding. -/

namespace Sys2Proof.Machine

/-! ## What the decoder accepts and rejects -/

/-- What the decoder accepts: the bytes of one instruction, two where the first asks for a second, and whatever follows them. -/
theorem exists_decodeBytes_of_decode_ok {bytes rest : List Byte} {i : Instr} (h : decode bytes = .ok i rest) :
    ∃ op second, i = decodeBytes op second ∧ (if hasSecondByte op then [op, second] else [op]) ++ rest = bytes := by
  rcases bytes with _ | ⟨op, tail⟩
  · cases h
  · by_cases htwo : hasSecondByte op = true
    · rcases tail with _ | ⟨second, tail⟩
      · simp [decode, htwo] at h
      · obtain ⟨rfl, rfl⟩ : decodeBytes op second = i ∧ tail = rest := by simpa [decode, htwo] using h
        exact ⟨op, second, rfl, by simp [htwo]⟩
    · obtain ⟨rfl, rfl⟩ : decodeBytes op 0x00 = i ∧ tail = rest := by simpa [decode, htwo] using h
      exact ⟨op, 0x00, rfl, by simp [htwo]⟩

/-- What the decoder rejects: no byte, or a lone first byte that asks for a second. -/
theorem decode_eq_rejected_iff {bytes : List Byte} {why : DecodeReject} :
    decode bytes = .rejected why ↔
      (bytes = [] ∧ why = .noByte) ∨ (∃ op, bytes = [op] ∧ why = .secondByteMissing op ∧ hasSecondByte op = true) := by
  rcases bytes with _ | ⟨op, _ | ⟨second, tail⟩⟩
  · simp [decode, eq_comm (a := why)]
  · by_cases htwo : hasSecondByte op = true <;> simp [decode, htwo, eq_comm (a := why)]
  · by_cases htwo : hasSecondByte op = true <;> simp [decode, htwo]

/-- The fifteen first bytes of two-byte instructions (30_encoding.md R81). -/
theorem hasSecondByte_iff_mem (op : Byte) :
    hasSecondByte op = true ↔
      op ∈ ([0xCB, 0x06, 0x0E, 0x16, 0x1E, 0x26, 0x2E, 0x3E, 0xC6, 0xCE, 0xD6, 0xDE, 0xE6, 0xEE, 0xF6] : List Byte) := by
  induction op using byte_cases with
  | h n hn => interval_cases n <;> decide

/-- The primary rows without an action of their own (30_encoding.md R88, R90, R91). -/
theorem decodePrimary_form_eq_none_iff (op n : Byte) :
    (decodePrimary op n).form = none ↔ op ∈ invalidSet ∨ op ∈ unimplementedPrimarySet ∨ op = Config.prefixByte := by
  by_cases hop : op = Config.prefixByte
  · subst hop
    exact ⟨fun _ => .inr (.inr rfl), fun _ => rfl⟩
  · have hwired := mem_wiredPrimary_iff_form op n
    rw [mem_wiredPrimary] at hwired
    tauto

/-! ## The statements -/

/-- Settles O1: one case for each of the 512 constructors. The first byte is a numeral in each, so the decoder's answer computes
with the operand byte and the bytes that follow left free; `prefixCb` alone is not well-formed. -/
theorem decodeInvertsEncode : Obligations.DecodeInvertsEncode := by
  intro i rest hi
  cases i
  case prefixCb => cases hi
  all_goals rfl

/-- Settles O2: the decoder accepts one instruction's bytes and what follows them, and those bytes are its encoding. -/
theorem encodeInvertsDecode : Obligations.EncodeInvertsDecode := by
  intro bytes rest i h
  obtain ⟨op, second, rfl, hbytes⟩ := exists_decodeBytes_of_decode_ok h
  exact ⟨decodeBytes_wellFormed op second, by rw [encode_decodeBytes, hbytes]⟩

/-- Settles O3: the first bytes that ask for a second are the fifteen of `hasSecondByte_iff_mem`. -/
theorem decoderRejectsOnlyShortInput : Obligations.DecoderRejectsOnlyShortInput := by
  intro bytes why
  simp only [decode_eq_rejected_iff, hasSecondByte_iff_mem]

/-- Settles O4: each pattern at every value of its fields; the immediate byte is left free. -/
theorem formsHaveTheirBitPatterns : Obligations.FormsHaveTheirBitPatterns := by
  refine ⟨rfl, ?ldATo, ?ldAFrom, ?inc, ?dec, ?ldImm, ?ldReg, ?ldFromHl, ?ldToHl, ?alu, ?aluImm, ?pop, ?push, ?rst, ?swap,
    ?test, ?reset, ?set⟩
  case ldATo | ldAFrom | pop | push => intro p; cases p <;> rfl
  case ldImm => intro r n; cases r <;> rfl
  case ldReg => intro dst r; cases dst <;> cases r <;> rfl
  case ldFromHl | ldToHl => intro r; cases r <;> rfl
  case aluImm => intro fn n; cases fn <;> rfl
  case rst => intro t; cases t <;> rfl
  case inc | dec | swap => intro q; rcases q with (_ | _ | _ | _ | _ | _ | _) | _ <;> rfl
  case alu => intro fn q; cases fn <;> rcases q with (_ | _ | _ | _ | _ | _ | _) | _ <;> rfl
  case test | reset | set => intro b q; cases b <;> rcases q with (_ | _ | _ | _ | _ | _ | _) | _ <;> rfl

/-- Settles O5: the rows without a form of each page, and the sizes of the sets by counting. -/
theorem opcodePagesArePartitioned : Obligations.OpcodePagesArePartitioned :=
  ⟨decodePrimary_form_eq_none_iff, decodeExtended_form_eq_none_iff, by decide, rfl, rfl, by decide⟩

end Sys2Proof.Machine
end

section
/-! SUPPORT. What the mask operations answer (40_operand_resolution.md R110 to R119): on the mask of a register or pair what the tagged
operand answers (R118), and nothing on a mask with another number of bits. -/

namespace Sys2Proof.Machine

/-! ## Bits, population counts and the fetch -/

theorem bitPositions_bitMask : ∀ i < 8, bitPositions (bitMask i) = [i] := by decide

theorem bitPosition_bitMask {i : Nat} (hi : i < 8) : bitPosition (bitMask i) = some i := by
  rw [bitPosition, bitPositions_bitMask i hi]

theorem bitPosition_eq_none {m : RegMask} (h : populationCount m ≠ 1) : bitPosition m = none := by
  unfold bitPosition
  split
  next i hm => exact absurd (congrArg List.length hm) h
  next => rfl

theorem populationCount_regMask (r : Reg) : populationCount (regMask r) = 1 :=
  congrArg List.length (bitPositions_bitMask (regIndex r) (regIndex_lt r))

theorem populationCount_pairMask (p : Pair) : populationCount (pairMask p) = 2 := by cases p <;> rfl

theorem populationCount_pairMask_ne_one (p : Pair) : populationCount (pairMask p) ≠ 1 := by
  simp [populationCount_pairMask]

theorem maskReg_regMask (r : Reg) : maskReg (regMask r) = some r := by
  rw [maskReg, regMask, bitPosition_bitMask (regIndex_lt r), Option.bind_some, regAt_regIndex]

theorem regMask_inj {r q : Reg} : regMask r = regMask q ↔ r = q :=
  ⟨fun h => by simpa [maskReg_regMask] using congrArg maskReg h, fun h => h ▸ rfl⟩

theorem maskPair_eq_none {m : RegMask} (h : populationCount m ≠ 2) : maskPair m = none := by
  rw [Option.eq_none_iff_forall_ne_some]
  intro p hp
  exact h (pairMask_of_maskPair hp ▸ populationCount_pairMask p)

theorem composeAddress_eq_none {m : RegMask} (h : populationCount m ≠ 2) (s : State) : composeAddress m s = none := by
  rw [composeAddress, maskPair_eq_none h]
  rfl

theorem GReg.toReg_ne_f (r : GReg) : r.toReg ≠ .f := by cases r <;> decide

theorem reg_fetch8_snd (s : State) (r : Reg) {cfg : Params} : (fetch8 s cfg).2.reg r = s.reg r := by cases r <;> rfl

/-! ## Masks of operands -/

section
variable (s : State) (v : Byte)

theorem readMask_operandMask (o : Operand) : readMask (operandMask o) s = some (readOperand o s) := by
  cases o with
  | reg r => rw [operandMask, readMask, if_pos (populationCount_regMask r), maskReg_regMask]; rfl
  | mem p =>
    rw [operandMask, readMask, if_neg (populationCount_pairMask_ne_one p), if_pos (populationCount_pairMask p),
      composeAddress_pairMask]
    rfl

theorem writeMask_operandMask (o : Operand) : writeMask (operandMask o) v s = some (writeOperand o v s) := by
  cases o with
  | reg r => rw [operandMask, writeMask, if_pos (populationCount_regMask r), maskReg_regMask]; rfl
  | mem p =>
    rw [operandMask, writeMask, if_neg (populationCount_pairMask_ne_one p), if_pos (populationCount_pairMask p),
      composeAddress_pairMask]
    rfl

/-- `Move` over masks is `Move` on the operands, but from memory to memory, which is not defined (R115). -/
theorem moveMask_operandMask {dst src : Operand}
    (h : populationCount (operandMask dst) = 1 ∨ populationCount (operandMask src) = 1) :
    moveMask (operandMask dst) (operandMask src) s = some (move dst src s) := by
  rw [moveMask, if_neg (by omega), readMask_operandMask, Option.bind_some, writeMask_operandMask]
  rfl

/-- `LoadImmediate` on the mask of a register other than F writes the byte fetched there. -/
theorem loadImmediateMask_regMask (cfg : Params) {r : Reg} (hr : r ≠ .f) :
    loadImmediateMask cfg (regMask r) s = some ((fetch8 s cfg).2.setReg r (s.memRead s.pc)) := by
  rw [loadImmediateMask, if_pos ⟨populationCount_regMask r, mt regMask_inj.mp hr⟩, maskReg_regMask]
  rfl

/-! ## Invalid masks -/

variable {m : RegMask}

theorem loadImmediateMask_eq_none (cfg : Params) (h : populationCount m ≠ 1 ∨ m = regMask .f) :
    loadImmediateMask cfg m s = none := by
  rw [loadImmediateMask, if_neg (by tauto)]

theorem readMask_eq_none (h1 : populationCount m ≠ 1) (h2 : populationCount m ≠ 2) : readMask m s = none := by
  rw [readMask, if_neg h1, if_neg h2]

theorem writeMask_eq_none (h1 : populationCount m ≠ 1) (h2 : populationCount m ≠ 2) : writeMask m v s = none := by
  rw [writeMask, if_neg h1, if_neg h2]

/-- `Move` to or from an invalid mask is rejected, whatever the other mask is. -/
theorem moveMask_eq_none (h1 : populationCount m ≠ 1) (h2 : populationCount m ≠ 2) (m' : RegMask) :
    moveMask m m' s = none ∧ moveMask m' m s = none := by
  constructor
  · simp only [moveMask, h2, false_and, if_false, writeMask_eq_none s _ h1 h2, Option.bind_fun_none]
  · simp only [moveMask, h2, and_false, if_false, readMask_eq_none s h1 h2, Option.bind_none]

end

end Sys2Proof.Machine
end

section
/-! SUPPORT. What a wired instruction leaves behind whose meaning is one operand write (40_operand_resolution.md R117). -/

namespace Sys2Proof.Machine

theorem sameRegsBut_writeOperand (o : Operand) (v : Byte) (s : State) :
    SameRegsBut (operandRegs o) s (writeOperand o v s) := by
  intro r hr
  rw [reg_writeOperand, if_neg]
  rintro rfl
  simp [operandRegs] at hr

theorem sameMemBut_writeOperand (o : Operand) (v : Byte) (s : State) :
    SameMemBut (operandAddrs o s) s (writeOperand o v s) := fun addr haddr =>
  memRead_writeOperand_other o v s (by rintro p rfl; simpa [operandAddrs] using haddr)

/-- A form that writes a register operand puts the byte in that register and changes nothing else. -/
theorem exec_of_perform_reg {form : Form} {s : State} {r : Reg} {v : Byte} (h : perform form s = writeOperand (.reg r) v s) :
    ∃ t, exec form.instr s = .next t ∧ t.reg r = v ∧ SameRegsBut [r] s t ∧ SameMemBut [] s t ∧ SameControl s t :=
  ⟨_, exec_form form s, h ▸ reg_setReg_same s r v, h ▸ sameRegsBut_writeOperand (.reg r) v s,
    h ▸ sameMemBut_writeOperand (.reg r) v s, h ▸ writeOperand_control (.reg r) v s⟩

/-- A form that writes a memory operand puts the byte at the pair's address and changes nothing else. -/
theorem exec_of_perform_mem {form : Form} {s : State} {p : Pair} {v : Byte} (hm : s.mem.wf)
    (h : perform form s = writeOperand (.mem p) v s) :
    ∃ t, exec form.instr s = .next t ∧ t.memRead (s.pair p) = v ∧ SameRegsBut [] s t ∧ SameMemBut [s.pair p] s t ∧
      SameControl s t :=
  ⟨_, exec_form form s, h ▸ Memory.read_write_same hm (s.pair p) v, h ▸ sameRegsBut_writeOperand (.mem p) v s,
    h ▸ sameMemBut_writeOperand (.mem p) v s, h ▸ writeOperand_control (.mem p) v s⟩

end Sys2Proof.Machine
end

section
/-! SUPPORT. The statements on operand resolution (40_operand_resolution.md). -/

namespace Sys2Proof.Machine

/-- Settles O18: of the things a running step can do (`step_cases`), a form keeps the status and the three faults are of the other
two kinds. -/
theorem operandMaskFaultUnreachable : Obligations.OperandMaskFaultUnreachable := by
  intro s t r hr hstep hfault
  rcases step_cases hr hstep with ⟨form, -, rfl⟩ | ⟨-, rfl⟩ | ⟨-, rfl⟩ | ⟨-, -, rfl⟩
  · obtain ⟨-, -, hstatus⟩ := perform_control form (fetchInstr s).2
    have hrunning : (fetchInstr s).2.status = .running := by rw [fetchInstr_snd, hr]
    rw [hstatus, hrunning] at hfault
    cases hfault
  all_goals
    cases hfault
    simp

/-- Settles O26: LD r,n writes one register operand (`exec_of_perform_reg`), and so does `LoadImmediate` on its mask, in the state
past the byte it fetches (`loadImmediateMask_regMask`). -/
theorem loadImmediateLoadsOneRegister : Obligations.LoadImmediateLoadsOneRegister := by
  refine ⟨fun r n s => exec_of_perform_reg rfl, fun r s => ?_, fun s => loadImmediateMask_eq_none s params (.inr rfl),
    populationCount_pairMask_ne_one, fun m s h => loadImmediateMask_eq_none s params (.inl h)⟩
  refine ⟨_, loadImmediateMask_regMask s params (GReg.toReg_ne_f r), ?_, ?_, ?_, ?_, ?_, ?_⟩
  · exact reg_setReg_same _ _ _
  · intro q hq
    rw [reg_setReg_other _ _ (List.ne_of_not_mem_cons hq), reg_fetch8_snd]
  · intro addr _
    rw [memRead_setReg, memRead_fetch8_snd]
  · rw [setReg_pc, fetch8_snd_pc]
  · rw [setReg_sp, fetch8_snd_sp]
  · rw [setReg_status, fetch8_snd_status]

/-- Settles O27: each of the three instructions is one operand write (`exec_of_perform_reg`, `exec_of_perform_mem`), and over masks
`Move` is `Move` on the operands (`moveMask_operandMask`). -/
theorem moveCopiesOneByte : Obligations.MoveCopiesOneByte := by
  refine ⟨fun dst r s => exec_of_perform_reg rfl, fun dst s => ?_, fun r s hm => ?_, fun dst r s => ?_, fun dst p s => ?_,
    fun p r s => ?_⟩
  · exact exec_of_perform_reg (v := s.memRead (s.pair .hl)) rfl
  · exact exec_of_perform_mem (p := .hl) hm rfl
  · exact moveMask_operandMask s (dst := .reg dst) (src := .reg r) (.inl (populationCount_regMask dst))
  · exact moveMask_operandMask s (dst := .reg dst) (src := .mem p) (.inl (populationCount_regMask dst))
  · exact moveMask_operandMask s (dst := .mem p) (src := .reg r) (.inr (populationCount_regMask r))

/-- Settles O47: reading and writing reject the mask by its population count and `Move` with them, and a pair's mask has
population count 2 (`maskPair_eq_none`). -/
theorem invalidMasksFault : Obligations.InvalidMasksFault := by
  intro m s v op addr ext h1 h2
  have hwrite := writeMask_eq_none s v h1 h2
  refine ⟨readMask_eq_none s h1 h2, hwrite, loadImmediateMask_eq_none s params (.inl h1), ?_, ?_,
    moveMask_eq_none s h1 h2, ?_⟩
  · rw [pushMask, composeAddress_eq_none h2, Option.map_none]
  · rw [popMask, maskPair_eq_none h2, Option.map_none]
  · rw [hwrite]
    rfl

/-- Settles O45: `readMask_operandMask` and `writeMask_operandMask`. -/
theorem masksResolveLikeOperands : Obligations.MasksResolveLikeOperands :=
  fun o v s => ⟨readMask_operandMask s o, writeMask_operandMask s v o⟩

/-- Settles O46: a one-bit mask has its bit's position alone (`bitPositions_bitMask`), and a mask composes an address where it is a
pair's (`composeAddress_pairMask`, `composeAddress_eq_none`), the registers' bytes side by side (`joinBytes_toNat`). -/
theorem composeAddressIsThePairView : Obligations.ComposeAddressIsThePairView := by
  refine ⟨fun i hi => bitPosition_bitMask hi, fun r => bitPosition_bitMask (regIndex_lt r), fun m h => bitPosition_eq_none h,
    fun s => ?_, fun hi lo => ?_, fun m s h => composeAddress_eq_none h s⟩
  · exact ⟨composeAddress_pairMask .bc s, composeAddress_pairMask .de s, composeAddress_pairMask .hl s,
      composeAddress_pairMask .af s⟩
  · rw [← joinBytes_toNat, BitVec.ofNat_toNat, BitVec.setWidth_eq]

end Sys2Proof.Machine
end

section
/-! SUPPORT. The statements on loads (41_loads.md). -/

namespace Sys2Proof.Machine

/-- Settles O28: a load from BC or DE is one write of A with the byte the pair addresses (`exec_of_perform_reg`), a store one write
of memory at the pair with A (`exec_of_perform_mem`). -/
theorem accumulatorMovesThroughBcDe : Obligations.AccumulatorMovesThroughBcDe := by
  refine ⟨fun p s => ?load, fun p s hm => ?store⟩
  case load => exact exec_of_perform_reg (r := .a) (v := s.memRead (s.pair p.toPair)) rfl
  case store => exact exec_of_perform_mem (p := p.toPair) hm rfl

/-- Settles O6: the decoder evaluated on the twelve words; no part of a word is left free. -/
theorem specWordsDecode : Obligations.SpecWordsDecode := by
  unfold Obligations.SpecWordsDecode
  decide

end Sys2Proof.Machine
end

section
/-! SUPPORT. What the carry detector and `ExecuteBinary` leave in the flags, for every choice of four different flag bits
(42_alu_binary.md R156 to R158). -/

namespace Sys2Proof.Machine

/-! ## The carry detector -/

section
variable {cfg : Params} (hcfg : cfg.FlagBitsDistinct) (lhs rhs : Byte) (cin : Bool) {s : State}
include hcfg

/-- The detector keeps Z and N, and puts bits 4 and 8 of the carry vector in H and C. -/
theorem detectCarries_flags :
    let k : Nat := if cfg.carryInFlags = true ∧ cin = true then 1 else 0
    let t := detectCarries cfg lhs rhs cin s
    t.flagZ cfg = s.flagZ cfg ∧ t.flagN cfg = s.flagN cfg ∧
    t.flagH cfg = (carryVector (s.flagN cfg) lhs rhs k).getLsbD 4 ∧
    t.flagC cfg = (carryVector (s.flagN cfg) lhs rhs k).getLsbD 8 := by
  obtain ⟨hz, hn, hh, hc, hdistinct⟩ := hcfg
  obtain ⟨⟨-, hzh, hzc⟩, ⟨hnh, hnc⟩, hhc⟩ :
      (cfg.zBit ≠ cfg.nBit ∧ cfg.zBit ≠ cfg.hBit ∧ cfg.zBit ≠ cfg.cBit) ∧ (cfg.nBit ≠ cfg.hBit ∧ cfg.nBit ≠ cfg.cBit) ∧ cfg.hBit ≠ cfg.cBit := by simpa using hdistinct
  simp [detectCarries, State.flagZ, State.flagN, State.flagH, State.flagC, bitAt_putBit, hz, hn, hh, hc, hzh.symm, hzc.symm,
    hnh.symm, hnc.symm, hhc.symm]

/-- With N clear, H and C are the half-carry and the carry. -/
theorem detectCarries_of_flagN_false (hN : s.flagN cfg = false) :
    let k : Nat := if cfg.carryInFlags = true ∧ cin = true then 1 else 0
    let t := detectCarries cfg lhs rhs cin s
    (t.flagH cfg = true ↔ lhs.toNat % 16 + (rhs.toNat % 16 + k) > 0xF) ∧
    (t.flagC cfg = true ↔ lhs.toNat + (rhs.toNat + k) > 0xFF) := by
  intro k t
  obtain ⟨-, -, hH, hC⟩ := detectCarries_flags hcfg lhs rhs cin (s := s)
  obtain ⟨h4, h8⟩ := carryVector_add lhs rhs k (ite_le_one le_rfl zero_le_one)
  rw [hN] at hH hC
  exact ⟨by rw [hH, h4, decide_eq_true_iff], by rw [hC, h8, decide_eq_true_iff]⟩

/-- With N set, H and C are the half-borrow and the borrow. -/
theorem detectCarries_of_flagN_true (hN : s.flagN cfg = true) :
    let k : Nat := if cfg.carryInFlags = true ∧ cin = true then 1 else 0
    let t := detectCarries cfg lhs rhs cin s
    (t.flagH cfg = true ↔ lhs.toNat % 16 < rhs.toNat % 16 + k) ∧ (t.flagC cfg = true ↔ lhs.toNat < rhs.toNat + k) := by
  intro k t
  obtain ⟨-, -, hH, hC⟩ := detectCarries_flags hcfg lhs rhs cin (s := s)
  obtain ⟨h4, h8⟩ := carryVector_sub lhs rhs k (ite_le_one le_rfl zero_le_one)
  rw [hN] at hH hC
  exact ⟨by rw [hH, h4, decide_eq_true_iff], by rw [hC, h8, decide_eq_true_iff]⟩

end

/-! ## `ExecuteBinary` -/

theorem usesCarryIn_iff {fn : AluFn} : usesCarryIn fn = true ↔ fn = .adc ∨ fn = .sbc := by cases fn <;> simp [usesCarryIn]

/-- A function with a carry handler runs the detector on A and the operand, in a state whose N says whether it subtracts. -/
theorem executeBinary_eq_detectCarries {cfg : Params} (hcfg : cfg.FlagBitsDistinct) {fn : AluFn} (h : hasCarryHandler fn = true)
    (b : Byte) (s : State) :
    ∃ s', executeBinary cfg fn b s = detectCarries cfg s.a b (usesCarryIn fn && s.flagC cfg) s' ∧
      s'.flagN cfg = decide (fn = .sub ∨ fn = .sbc) := by
  obtain ⟨-, hn, -⟩ := hcfg
  refine ⟨_, if_pos h, ?_⟩
  cases fn with
  | and | xor | or => cases h
  | add | adc | sub | sbc => simp [binaryPolicy, State.flagN, bitAt_putBit hn]

/-- The byte now in A and the flag Z after a binary function. -/
theorem binaryResult_flagZ (carryIn : Bool) (fn : AluFn) (b : Byte) (s : State) :
    (binaryResult carryIn fn b s).flagZ = ((binaryResult carryIn fn b s).a == 0) := by
  cases fn with
  | add | adc | sub | sbc | and | xor | or => exact bitAt_flagByte_7 _ _ _ _ _

/-! ## The instructions -/

/-- A binary instruction on a slot answers `binaryResult`, H and C without the carry-in (CARRY_IN_FLAGS = false). -/
theorem exec_alu (fn : AluFn) (q : Slot) (s : State) :
    exec (Form.alu fn q).instr s = .next (binaryResult false fn (readOperand (slotOperand q) s) s) := by
  rw [exec_form, perform, binaryOn, executeBinary_eq]

/-- The same on an immediate byte. -/
theorem exec_aluImm (fn : AluFn) (n : Byte) (s : State) :
    exec (Form.aluImm fn n).instr s = .next (binaryResult false fn n s) := by
  rw [exec_form, perform, executeBinary_eq]

end Sys2Proof.Machine
end

section
/-! SUPPORT. The statements on the binary ALU (42_alu_binary.md). -/

namespace Sys2Proof.Machine

/-- Settles O30: the detector's closed forms by N (`detectCarries_of_flagN_false`, `detectCarries_of_flagN_true`), and the four
functions run it after their policy has written N (`executeBinary_eq_detectCarries`). -/
theorem carryDetectorClosedForm : Obligations.CarryDetectorClosedForm := by
  refine ⟨fun cfg lhs rhs cin s hcfg => ?detector, fun cfg fn b s hcfg => ?functions⟩
  case detector =>
    obtain ⟨hZ, hN, -, -⟩ := detectCarries_flags hcfg lhs rhs cin (s := s)
    exact ⟨detectCarries_of_flagN_false hcfg lhs rhs cin, detectCarries_of_flagN_true hcfg lhs rhs cin, hZ, hN, rfl⟩
  case functions =>
    have hcin : (usesCarryIn fn && s.flagC cfg) = true ↔ (fn = .adc ∨ fn = .sbc) ∧ s.flagC cfg = true := by
      rw [Bool.and_eq_true, usesCarryIn_iff]
    intro k t
    constructor
    · intro hadd
      obtain ⟨s', ht, hN⟩ := executeBinary_eq_detectCarries hcfg (fn := fn) (by rcases hadd with rfl | rfl <;> rfl) b s
      have hN' : s'.flagN cfg = false := by rcases hadd with rfl | rfl <;> exact hN
      simpa only [t, k, ht, hcin] using detectCarries_of_flagN_false hcfg s.a b (usesCarryIn fn && s.flagC cfg) hN'
    · intro hsub
      obtain ⟨s', ht, hN⟩ := executeBinary_eq_detectCarries hcfg (fn := fn) (by rcases hsub with rfl | rfl <;> rfl) b s
      have hN' : s'.flagN cfg = true := by rw [hN]; exact decide_eq_true hsub
      simpa only [t, k, ht, hcin] using detectCarries_of_flagN_true hcfg s.a b (usesCarryIn fn && s.flagC cfg) hN'

/-- Settles O29: in the state a binary instruction answers (`exec_alu`, `exec_aluImm`) the flag Z is the test of A for zero
(`binaryResult_flagZ`). -/
theorem zeroFlagIffResultZero : Obligations.ZeroFlagIffResultZero := by
  have hZ : ∀ fn b s, (binaryResult false fn b s).flagZ = true ↔ (binaryResult false fn b s).a = 0 := fun fn b s => by
    rw [binaryResult_flagZ, beq_iff_eq]
  exact ⟨fun fn q s => ⟨_, exec_alu fn q s, hZ _ _ _⟩, fun fn n s => ⟨_, exec_aluImm fn n s, hZ _ _ _⟩⟩

/-- Settles O31: the state of `exec_alu` and `exec_aluImm`; for ADD and SUB `binaryResult` is by definition the closed form,
on the operand each form resolves. -/
theorem addSubResult : Obligations.AddSubResult :=
  ⟨fun r => exec_alu .add (.reg r), exec_alu .add .memHl, exec_aluImm .add,
    fun r => exec_alu .sub (.reg r), exec_alu .sub .memHl, exec_aluImm .sub⟩

/-- Settles O32: the same for ADC and SBC, where `binaryResult` with CARRY_IN_FLAGS false takes the carry-in into A and Z only. -/
theorem adcSbcResult : Obligations.AdcSbcResult :=
  ⟨fun r => exec_alu .adc (.reg r), exec_alu .adc .memHl, exec_aluImm .adc,
    fun r => exec_alu .sbc (.reg r), exec_alu .sbc .memHl, exec_aluImm .sbc⟩

/-- Settles O33: the same for the three bitwise functions. -/
theorem bitwiseResult : Obligations.BitwiseResult :=
  ⟨fun q s => ⟨exec_alu .and q s, exec_alu .xor q s, exec_alu .or q s⟩,
    fun n s => ⟨exec_aluImm .and n s, exec_aluImm .xor n s, exec_aluImm .or n s⟩⟩

end Sys2Proof.Machine
end

section
/-! SUPPORT. The statements on the unary ALU (43_alu_unary.md). -/

namespace Sys2Proof.Machine

/-! ## SWAP -/

theorem swapNibbles_involutive : Function.Involutive swapNibbles := fun v => by
  refine byte_ext fun i hi => ?_
  interval_cases i <;> simp [bitAt, swapNibbles]

theorem swapNibbles_eq_zero_iff {v : Byte} : swapNibbles v = 0 ↔ v = 0 := swapNibbles_involutive.injective.eq_iff' rfl

/-! ## The instructions -/

/-- F after a unary function on the byte `v` (43_alu_unary.md R181, R182; positions and low nibble 10_state.md R23, R24). -/
def unaryResultF (fn : UnaryFn) (v : Byte) (s : State) : Byte :=
  match fn with
  | .inc => flagByte (v + 1 == 0) false (v.toNat % 16 == 15) s.flagC s.f
  | .dec => flagByte (v - 1 == 0) true (v.toNat % 16 == 0) s.flagC s.f
  | .swap => flagByte (swapNibbles v == 0) false false false s.f

/-- A unary instruction on a slot writes the slot and F. -/
theorem exec_unary (fn : UnaryFn) (q : Slot) (s : State) :
    exec (Form.unary fn q).instr s =
      .next { writeOperand (slotOperand q) (unaryOp fn (readOperand (slotOperand q) s)) s with
        f := unaryResultF fn (readOperand (slotOperand q) s) s } := by
  rw [exec_form, perform, executeUnary_eq fn _ s (slotOperand_ne_f q)]
  cases fn with
  | inc | dec | swap => rfl

/-- On (HL) it changes the byte at HL, F, and nothing else. -/
theorem exec_unary_memHl (fn : UnaryFn) {s : State} (hm : s.mem.wf) :
    let v := s.memRead (s.pair .hl)
    ∃ t, exec (Form.unary fn .memHl).instr s = .next t ∧ t.memRead (s.pair .hl) = unaryOp fn v ∧ t.f = unaryResultF fn v s ∧
      SameRegsBut [.f] s t ∧ SameMemBut [s.pair .hl] s t ∧ SameControl s t := by
  intro v
  refine ⟨_, exec_unary fn .memHl s, Memory.read_write_same hm _ _, rfl, fun r hr => ?regs,
    sameMemBut_writeOperand (.mem .hl) _ s, writeOperand_control (.mem .hl) (unaryOp fn v) s⟩
  case regs =>
    exact (reg_withF _ _ (List.mem_singleton.not.mp hr)).trans (sameRegsBut_writeOperand (.mem .hl) _ s r List.not_mem_nil)

/-- Settles O34: the state of `exec_unary` for each function, on a register slot; the nibble swap is by definition the rotation by
four. -/
theorem unaryRegisterResult : Obligations.UnaryRegisterResult :=
  fun r s => ⟨exec_unary .inc (.reg r) s, exec_unary .dec (.reg r) s, exec_unary .swap (.reg r) s⟩

/-- Settles O35: `exec_unary_memHl` for each function; after SWAP the statement takes Z from the byte before it, which is zero
exactly when the result is (`swapNibbles_eq_zero_iff`). -/
theorem unaryMemoryResult : Obligations.UnaryMemoryResult := by
  intro s hm hl v Is
  refine ⟨exec_unary_memHl .inc hm, exec_unary_memHl .dec hm, ?swap⟩
  have hzero : (swapNibbles v == 0) = (v == 0) := by
    rw [Bool.eq_iff_iff, beq_iff_eq, beq_iff_eq, swapNibbles_eq_zero_iff]
  rw [← hzero]
  exact exec_unary_memHl .swap hm

end Sys2Proof.Machine
end

section
/-! SUPPORT. The statements on the bit engine (44_bit_ops.md). -/

namespace Sys2Proof.Machine

/-- Settles O36: BIT performs `TestBit` on the slot's operand, in closed form by `testBit_eq`. -/
theorem bitTestSetsOnlyFlags : Obligations.BitTestSetsOnlyFlags := by
  intro b q s
  rw [exec_form, perform, testBit_eq]
  rfl

/-- `bitAt_putBit` in the statements' spelling of a bit. -/
theorem getLsbD_putBit (v : Byte) (i : Nat) (x : Bool) {j : Nat} (hj : j < 8) :
    (putBit v i x).getLsbD j = if j = i then x else v.getLsbD j :=
  (bitAt_putBit hj).trans (if_congr eq_comm rfl rfl)

/-- SET and RES are one write of the slot's operand, of its byte with the bit put (44_bit_ops.md R201, R202). -/
theorem perform_bitOp_eq_putBit (b : Oct) (q : Slot) (x : Bool) (s : State) :
    perform (.bitOp (if x then .set else .reset) b q) s =
      writeOperand (slotOperand q) (putBit (readOperand (slotOperand q) s) b.toNat x) s := by
  cases x with
  | false => rfl
  | true => rfl

/-- Settles O37: the one operand write of `perform_bitOp_eq_putBit`, in a register (`exec_of_perform_reg`) or at HL
(`exec_of_perform_mem`), puts one bit and keeps the others (`getLsbD_putBit`). -/
theorem setResChangeOneBit : Obligations.SetResChangeOneBit := by
  intro b q x s hm fn
  have hwrite := perform_bitOp_eq_putBit b q x s
  cases q with
  | reg r =>
    obtain ⟨t, hexec, hbyte, hregs, hmem, hcontrol⟩ := exec_of_perform_reg hwrite
    exact ⟨t, hexec, ⟨fun i hi => hbyte ▸ getLsbD_putBit _ _ x hi, hregs, hmem⟩, hcontrol⟩
  | memHl =>
    obtain ⟨t, hexec, hbyte, hregs, hmem, hcontrol⟩ := exec_of_perform_mem hm hwrite
    exact ⟨t, hexec, ⟨fun i hi => hbyte ▸ getLsbD_putBit _ _ x hi, hregs, hmem⟩, hcontrol⟩

end Sys2Proof.Machine
end

section
/-! SUPPORT. What the stack engine leaves behind, in the terms of the statements (45_stack.md R220, R222, R227). -/

namespace Sys2Proof.Machine

/-! ## Push -/

theorem memRead_push16_sp {s : State} (hm : s.mem.wf) (v : Word) : (push16 v s).memRead s.sp = hiByte v := by
  rw [memRead_push16 hm, if_neg (sub_one_ne s.sp).symm, if_pos rfl]

theorem memRead_push16_sp_sub_one {s : State} (hm : s.mem.wf) (v : Word) : (push16 v s).memRead (s.sp - 1) = loByte v := by
  rw [memRead_push16 hm, if_pos rfl]

theorem hiByte_pair (p : Pair) (s : State) : hiByte (s.pair p) = s.reg p.hi := hiByte_joinBytes _ _

theorem loByte_pair (p : Pair) (s : State) : loByte (s.pair p) = s.reg p.lo := loByte_joinBytes _ _

/-! ## Pop -/

/-- What POP puts in the low register of its pair: F_WRITE_MASK applies where that is F (45_stack.md R225). -/
def poppedLow (cfg : Params) (p : Pair) (v : Byte) : Byte := if p = .af then v &&& cfg.fWriteMask else v

/-- `Pop(rr)` in closed form, at every value of the parameters. -/
theorem pop_eq (cfg : Params) (p : Pair) (s : State) :
    pop cfg p s = ((pop16 s cfg).2.setReg p.hi (s.memRead (s.sp + 2))).setReg p.lo (poppedLow cfg p (s.memRead (s.sp + 1))) := by
  rw [pop, pop16_fst, hiByte_joinBytes, loByte_joinBytes, poppedLow]

theorem reg_lo_pop (cfg : Params) (p : Pair) (s : State) :
    (pop cfg p s).reg p.lo = poppedLow cfg p (s.memRead (s.sp + 1)) := by
  rw [pop_eq, reg_setReg_same]

theorem reg_hi_pop (cfg : Params) (p : Pair) (s : State) : (pop cfg p s).reg p.hi = s.memRead (s.sp + 2) := by
  rw [pop_eq, reg_setReg_other _ _ (Pair.hi_ne_lo p), reg_setReg_same]

theorem sameRegsBut_pop (cfg : Params) (p : Pair) (s : State) : SameRegsBut [p.hi, p.lo] s (pop cfg p s) := by
  intro r hr
  obtain ⟨hhi, hlo⟩ : r ≠ p.hi ∧ r ≠ p.lo := by simpa using hr
  rw [pop_eq, reg_setReg_other _ _ hlo, reg_setReg_other _ _ hhi, reg_pop16_snd]

/-- POP AF puts the whole byte in F, since F_WRITE_MASK is 0xFF at its default. -/
theorem f_popAf (s : State) : (pop params .af s).f = s.memRead (s.sp + 1) :=
  (reg_lo_pop params .af s).trans BitVec.and_allOnes

/-- What `Push16` stored, POP of any pair gives back, from any state with that memory and that `sp`. -/
theorem exec_pop_of_push16 {s t : State} (hm : s.mem.wf) (v : Word) (hmem : t.mem = (push16 v s).mem) (hsp : t.sp = s.sp - 2)
    (q : Pair) : ∃ u, exec (Form.pop q).instr t = .next u ∧ u.pair q = v ∧ u.sp = s.sp := by
  have hback : s.sp - 2 + 2 = s.sp := BitVec.sub_add_cancel _ _
  refine ⟨pop params q t, exec_form (.pop q) t, ?pair, ?sp⟩
  case pair => rw [pair_pop_params, pop16_of_push16 hm v hmem hsp]
  case sp =>
    obtain ⟨-, hu, -⟩ := perform_control (.pop q) t
    exact hu.trans (hsp ▸ hback)

/-! ## The parity of `sp` -/

/-- Two words that differ by 2 have the same bit 0, across the wrap as well (45_stack.md R227). -/
theorem getLsbD_zero_add_two (v : Word) : (v + 2).getLsbD 0 = v.getLsbD 0 := by
  rw [getLsbD_eq_div, getLsbD_eq_div, decide_eq_decide, BitVec.toNat_add, show (2 : Word).toNat = 2 from rfl]
  omega

/-- No form changes bit 0 of `sp`: it stays, or moves by 2. -/
theorem getLsbD_zero_spAfter (form : Form) (v : Word) : (spAfter form v).getLsbD 0 = v.getLsbD 0 := by
  have hback : v - 2 + 2 = v := BitVec.sub_add_cancel _ _
  have hdown : (v - 2).getLsbD 0 = v.getLsbD 0 := by rw [← getLsbD_zero_add_two (v - 2), hback]
  cases form with
  | push | rst => exact hdown
  | pop => exact getLsbD_zero_add_two v
  | _ => rfl

theorem fetchInstr_snd_sp (s : State) : (fetchInstr s).2.sp = s.sp := by rw [fetchInstr_snd]

end Sys2Proof.Machine
end

section
/-! SUPPORT. The statements on the stack (45_stack.md). -/

namespace Sys2Proof.Machine

/-- Settles O38: PUSH is `Push16` of the pair's value, whose bytes are the two registers. -/
theorem pushStoresHighThenLow : Obligations.PushStoresHighThenLow := by
  intro p s hm
  refine ⟨push16 (s.pair p) s, exec_form (.push p) s, rfl, ?_, ?_, push16_sp _ s, fun r _ => reg_push16 _ s r,
    (frame_push16 _ s).mem, rfl, rfl⟩
  · rw [memRead_push16_sp hm, hiByte_pair]
  · rw [memRead_push16_sp_sub_one hm, loByte_pair]

/-- Settles O39: the closed form `pop_eq` at every mask; the flags are the bits of F, which POP AF writes whole (`f_popAf`). -/
theorem popLoadsLowThenHigh : Obligations.PopLoadsLowThenHigh := by
  refine ⟨fun cfg p s => ?anyMask, fun p s => exec_form (.pop p) s, fun s t ht => ?flags⟩
  case anyMask =>
    refine ⟨reg_hi_pop cfg p s, reg_lo_pop cfg p s, ?_, sameRegsBut_pop cfg p s, ?_, ?_, ?_⟩ <;> simp [pop_eq]
  case flags =>
    obtain rfl : pop params .af s = t := perform_of_exec (form := .pop .af) ht
    rw [← f_popAf s]
    exact ⟨rfl, rfl, rfl, rfl⟩

/-- Settles O40: PUSH is `Push16` of the pair's value, and `exec_pop_of_push16` gives it back. -/
theorem popGivesBackWhatPushStored : Obligations.PopGivesBackWhatPushStored := by
  intro p q s t t' hm ht hmem hsp
  obtain rfl : push16 (s.pair p) s = t := perform_of_exec (form := .push p) ht
  exact exec_pop_of_push16 hm (s.pair p) hmem (hsp.trans (push16_sp _ s)) q

/-- Settles O41: RST is `Push16` of `pc` with `pc` then at the vector, and `exec_pop_of_push16` gives the address back. -/
theorem rstPushesPcAndJumps : Obligations.RstPushesPcAndJumps := by
  intro y s hm
  have hsp : (push16 s.pc s).sp = s.sp - 2 := push16_sp s.pc s
  refine ⟨perform (.rst y) s, exec_form (.rst y) s, rfl, hsp, memRead_push16_sp hm s.pc, memRead_push16_sp_sub_one hm s.pc,
    fun r _ => ?regs, (frame_push16 s.pc s).mem, rfl, fun p => ?popped⟩
  case regs => cases r <;> rfl
  case popped =>
    obtain ⟨u, hu, hpair, -⟩ := exec_pop_of_push16 (t := perform (.rst y) s) hm s.pc rfl hsp p
    exact ⟨u, hu, hpair⟩

/-- Settles O55: a faulted state stays as it is, a form moves `sp` by `spAfter` (`perform_control`), which keeps its bit 0, and a
fault leaves `sp` alone. -/
theorem stepKeepsSpParity : Obligations.StepKeepsSpParity := by
  intro s t hstep
  cases hstatus : s.status with
  | faulted r =>
    obtain rfl : s = t := by simpa [step_faulted hstatus] using hstep
    rfl
  | running =>
    rcases step_cases hstatus hstep with ⟨form, -, rfl⟩ | ⟨-, rfl⟩ | ⟨-, rfl⟩ | ⟨-, -, rfl⟩
    · obtain ⟨-, hsp, -⟩ := perform_control form (fetchInstr s).2
      rw [hsp, getLsbD_zero_spAfter, fetchInstr_snd_sp]
    · rfl
    · rfl
    · rfl

end Sys2Proof.Machine
end

section
/-! SUPPORT. The rows without a form, by the set their byte is in (46_dispatch.md R246, R247), the prefix row (R245), and the host's
run (R248). -/

namespace Sys2Proof.Machine

theorem defaultSets_params : DefaultSets params := ⟨rfl, rfl, rfl⟩

/-! ## The rows without a form, by the set their byte is in -/

/-- A pair of bytes whose row has no form: an invalid byte, an unimplemented byte, or the prefix with an unimplemented selector. -/
theorem decodeBytes_form_eq_none_cases {op second : Byte} (hform : (decodeBytes op second).form = none) :
    op ∈ invalidSet ∨ op ∈ unimplementedPrimarySet ∨ (op = Config.prefixByte ∧ unimplementedSelector second = true) := by
  by_cases hop : op = Config.prefixByte
  · rw [decodeBytes, if_pos hop] at hform
    exact .inr (.inr ⟨hop, (decodeExtended_form_eq_none_iff second).mp hform⟩)
  · rw [decodeBytes, if_neg hop] at hform
    rcases (decodePrimary_form_eq_none_iff op second).mp hform with h | h | h
    · exact .inl h
    · exact .inr (.inl h)
    · exact absurd h hop

theorem not_mem_invalidSet_of_unimplemented {op : Byte} (h : op ∈ unimplementedPrimarySet) : op ∉ invalidSet := by
  have hdisjoint : ∀ op ∈ unimplementedPrimarySet, op ∉ invalidSet := by decide
  exact hdisjoint op h

theorem not_mem_invalidSet_of_selector {sel : Byte} (h : unimplementedSelector sel = true) : sel ∉ invalidSet := by
  have hdisjoint : ∀ op ∈ invalidSet, unimplementedSelector op = false := by decide
  exact fun hinvalid => Bool.false_ne_true ((hdisjoint sel hinvalid).symm.trans h)

/-- The byte of a faulting primary row stands alone: it is not the prefix, and no second byte is fetched after it. -/
theorem oneByte_of_faulting {op : Byte} (h : op ∈ invalidSet ∨ op ∈ unimplementedPrimarySet) :
    op ≠ Config.prefixByte ∧ hasSecondByte op = false := by
  have hall : ∀ op ∈ invalidSet ++ unimplementedPrimarySet, op ≠ Config.prefixByte ∧ hasSecondByte op = false := by decide
  exact hall op (List.mem_append.mpr h)

/-- The row of an unimplemented byte faults with that byte (R246). -/
theorem exec_decodeBytes_unimplemented {op : Byte} (h : op ∈ unimplementedPrimarySet) (second : Byte) (s : State) :
    exec (decodeBytes op second) s = .next (unimplementedPrimary op s) := by
  obtain ⟨hop, -⟩ := oneByte_of_faulting (.inr h)
  rw [decodeBytes, if_neg hop]
  rcases exec_decodePrimary_cases op second hop with ⟨form, hform⟩ | ⟨-, -, hexec⟩ | ⟨hinvalid, -⟩
  · simp [decodePrimary_form_eq_none (.inr h)] at hform
  · exact hexec s
  · exact absurd hinvalid (not_mem_invalidSet_of_unimplemented h)

/-- The row of an invalid byte faults with that byte (R247). -/
theorem exec_decodeBytes_invalid {op : Byte} (h : op ∈ invalidSet) (second : Byte) (s : State) :
    exec (decodeBytes op second) s = .next (invalidPrimary op s) := by
  obtain ⟨hop, -⟩ := oneByte_of_faulting (.inl h)
  rw [decodeBytes, if_neg hop]
  rcases exec_decodePrimary_cases op second hop with ⟨form, hform⟩ | ⟨hunimpl, -⟩ | ⟨-, -, hexec⟩
  · simp [decodePrimary_form_eq_none (.inl h)] at hform
  · exact absurd h (not_mem_invalidSet_of_unimplemented hunimpl)
  · exact hexec s

/-- The row of an unimplemented selector faults with that selector (R246). -/
theorem exec_decodeExtended_unimplemented {sel : Byte} (h : unimplementedSelector sel = true) (s : State) :
    exec (decodeExtended sel) s = .next (unimplementedExtended sel s) := by
  rcases exec_decodeExtended_cases sel with ⟨form, hform⟩ | ⟨-, hexec⟩
  · simp [(decodeExtended_form_eq_none_iff sel).mpr h] at hform
  · exact hexec s

/-! ## The prefix row and the row it selects -/

/-- The extended row of a selector answers what the cascade over the selector's fields does (R243). -/
theorem exec_decodeExtended (sel : Byte) (s : State) :
    exec (decodeExtended sel) s = .next (extendedAction params (s.pc - 1) sel s) := by
  rw [extendedAction_eq]
  cases hform : (decodeExtended sel).form with
  | none => exact exec_decodeExtended_unimplemented ((decodeExtended_form_eq_none_iff sel).mp hform) s
  | some form => rw [← instr_of_form hform, exec_form]; rfl

theorem exec_prefixCb (sel : Byte) (s : State) :
    exec (.prefixCb sel) s = .next (extendedAction params (s.pc - 1) sel s) := by
  rw [← extendedSelect_eq params rfl]
  rfl

/-- The prefix row is the one shape that is not well-formed. -/
theorem eq_prefixCb_of_wellFormed_eq_false {i : Instr} (h : i.wellFormed = false) : ∃ sel, i = .prefixCb sel := by
  rw [Instr.wellFormed.eq_def] at h
  split at h
  · exact ⟨_, rfl⟩
  · cases h

/-- A well-formed instruction is the row of two bytes, of which its encoding holds those that are fetched. -/
theorem exists_decodeBytes_of_wellFormed {i : Instr} (h : i.wellFormed = true) :
    ∃ op second, i = decodeBytes op second ∧ encode i = if hasSecondByte op then [op, second] else [op] := by
  obtain ⟨op, second, rfl, -⟩ := exists_decodeBytes_of_decode_ok (decodeInvertsEncode i [] h)
  exact ⟨op, second, rfl, encode_decodeBytes op second⟩

/-! ## The step -/

/-- The decoder on the two bytes at `pc` reads the instruction a step fetches. -/
theorem decode_memRead_pc (s : State) :
    decode [s.memRead s.pc, s.memRead (s.pc + 1)] =
      .ok (fetchInstr s).1 (if hasSecondByte (s.memRead s.pc) then [] else [s.memRead (s.pc + 1)]) := by
  rw [decode_cons, fetchInstr_fst]
  cases htwo : hasSecondByte (s.memRead s.pc) with
  | true => rfl
  | false => rw [if_neg Bool.false_ne_true, decodeBytes_second _ 0x00 _ htwo]; rfl

/-- Fetching changes `pc` alone, which it moves past the instruction's encoding. -/
theorem fetchInstr_snd_encode (s : State) :
    (fetchInstr s).2 = { s with pc := s.pc + BitVec.ofNat 16 (encode (fetchInstr s).1).length } := by
  rw [← fetchInstr_snd_pc, fetchInstr_snd]

/-- Every step answers a next state. -/
theorem exists_step_eq_next (s : State) : ∃ t, step s = .next t := by
  cases hstatus : s.status with
  | faulted r => exact ⟨s, step_faulted hstatus⟩
  | running =>
    cases hform : (fetchInstr s).1.form with
    | some form => exact ⟨_, step_of_form hstatus hform⟩
    | none =>
      obtain ⟨kind, byte, ext, hexec⟩ := exec_fetchInstr_of_no_form hform
      exact ⟨_, (step_running hstatus).trans (hexec _)⟩

/-! ## `Run()` -/

theorem run_of_faulted (stops : List Bool) {s : State} {r : FaultRecord} (h : s.status = .faulted r) :
    run stops s = .next s := by
  cases stops with
  | nil => rfl
  | cons stop rest => simp only [run, h]

theorem run_stop (stops : List Bool) (s : State) : run (true :: stops) s = .next s := by
  cases h : s.status with
  | faulted r => exact run_of_faulted _ h
  | running => simp only [run, h, if_true]

/-- With the stop signal low, a running CORE steps and goes on. -/
theorem run_go (stops : List Bool) {s t : State} (hr : s.status = .running) (hstep : step s = .next t) :
    run (false :: stops) s = run stops t := by
  simp [run, hr, hstep]

theorem coreRun_succ {M : Host.Core} (k : Nat) {s t : M.State} (hstep : M.step s = .next t) :
    M.run (k + 1) s = M.run k t := by
  rw [Host.Core.run, hstep]

/-- Stepping a faulted CORE any number of times leaves it as it is (60_exceptions.md R266). -/
theorem coreRun_of_faulted (k : Nat) {s : State} {r : FaultRecord} (h : s.status = .faulted r) :
    core.run k s = .next s := by
  induction k with
  | zero => rfl
  | succ k ih => exact (coreRun_succ (M := core) k (step_faulted h)).trans ih

/-- A run through `k` low samples is `k` steps, before any samples at which the run returns. -/
theorem run_replicate_append {tail : List Bool} (htail : ∀ s, run tail s = .next s) (k : Nat) (s : State) :
    run (List.replicate k false ++ tail) s = core.run k s := by
  induction k generalizing s with
  | zero => exact htail s
  | succ k ih =>
    cases hstatus : s.status with
    | faulted r => exact (run_of_faulted _ hstatus).trans (coreRun_of_faulted _ hstatus).symm
    | running =>
      obtain ⟨t, hstep⟩ := exists_step_eq_next s
      have hgo : run (List.replicate (k + 1) false ++ tail) s = run (List.replicate k false ++ tail) t := run_go _ hstatus hstep
      exact hgo.trans ((ih t).trans (coreRun_succ (M := core) k hstep).symm)

end Sys2Proof.Machine
end

section
/-! SUPPORT. The statements on the dispatcher (46_dispatch.md). -/

namespace Sys2Proof.Machine

/-- Settles O9: a row with a form is performed by both (`step_of_form`, `stepCascade_of_form`), a row without one takes one fault in
both (`stepCascade_of_fault`), and a faulted state stays as it is. -/
theorem stepIsTheDispatchCascade : Obligations.StepIsTheDispatchCascade := by
  intro s
  cases hstatus : s.status with
  | faulted r => rw [step_faulted hstatus, stepCascade, hstatus]
  | running =>
    cases hform : (fetchInstr s).1.form with
    | some form => rw [step_of_form hstatus hform, stepCascade_of_form defaultSets_params hstatus hform]
    | none =>
      obtain ⟨t, hstep⟩ := exists_step_eq_next s
      rw [hstep, stepCascade_of_fault defaultSets_params hstatus hstep hform]

/-- Settles O10: both rows answer what the cascade over the selector's fields does, and a step at 0xCB fetches the row of the byte
after it. -/
theorem prefixMeansSelectedRow : Obligations.PrefixMeansSelectedRow := by
  refine ⟨fun sel s => ⟨_, exec_prefixCb sel s, exec_decodeExtended sel s⟩, fun s hr hop => ?_⟩
  have hrow : decodeBytes 0xCB (s.memRead (s.pc + 1)) = decodeExtended (s.memRead (s.pc + 1)) := rfl
  have htwo : hasSecondByte 0xCB = true := rfl
  rw [step_running hr, fetchInstr_fst, fetchInstr_snd, hop, hrow, if_pos htwo, exec_decodeExtended, exec_prefixCb]

/-- Settles O11: a step moves `pc` by 1 or 2 (`stepMovesPc`), but for RST, which moves `sp` by 2. -/
theorem runningStepChangesTheState : Obligations.RunningStepChangesTheState := by
  rintro s t hr hstep rfl
  by_cases hrst : ∃ y, (fetchInstr t).1.form = some (.rst y)
  · obtain ⟨y, hform⟩ := hrst
    have ht : perform (.rst y) (fetchInstr t).2 = t := by simpa [step_of_form hr hform] using hstep
    have hsp : t.sp = t.sp - 2 := by
      calc t.sp = (perform (.rst y) (fetchInstr t).2).sp := by rw [ht]
        _ = (fetchInstr t).2.sp - 2 := (perform_control (.rst y) _).2.1
        _ = t.sp - 2 := by rw [fetchInstr_snd_sp]
    bv_omega
  · obtain ⟨hpc, hlength⟩ := (stepMovesPc t t hr hstep).2 (fun y h => hrst ⟨y, h⟩)
    rcases hlength with h | h <;> rw [h] at hpc <;> bv_omega

/-- Settles O14: each row by the set its byte is in. -/
theorem unimplementedRowsFault : Obligations.UnimplementedRowsFault :=
  ⟨fun _ n s h => exec_decodeBytes_unimplemented h n s, fun _ s h => exec_decodeExtended_unimplemented h s⟩

/-- Settles O15: the eleven bytes are `invalidSet`. -/
theorem invalidRowsFault : Obligations.InvalidRowsFault :=
  fun _ n s h => exec_decodeBytes_invalid h n s

/-- Settles O21: an instruction with a form performs it, and a form keeps the status; a well-formed one without a form is the row of an
invalid byte, an unimplemented byte or an unimplemented selector; the prefix row answers what the selected row does. -/
theorem everyInstructionCompletes : Obligations.EveryInstructionCompletes := by
  intro i s
  cases hform : i.form with
  | some form =>
    have hi := instr_of_form hform
    refine ⟨perform form s, by rw [← hi, exec_form], ?_, nofun, ?_⟩
    · rintro _ ⟨⟩
      exact ⟨hi, (perform_control form s).2.2⟩
    · rintro sel rfl
      cases hform
  | none =>
    cases hwf : i.wellFormed with
    | false =>
      obtain ⟨sel, rfl⟩ := eq_prefixCb_of_wellFormed_eq_false hwf
      refine ⟨_, exec_prefixCb sel s, nofun, nofun, ?_⟩
      rintro _ ⟨⟩
      exact exec_decodeExtended sel s
    | true =>
      have hprefix : ∀ sel, i ≠ .prefixCb sel := by
        rintro sel rfl
        cases hwf
      obtain ⟨op, second, rfl, hencode⟩ := exists_decodeBytes_of_wellFormed hwf
      rcases decodeBytes_form_eq_none_cases hform with h | h | ⟨rfl, h⟩
      · refine ⟨_, exec_decodeBytes_invalid h second s, nofun, fun _ _ => ⟨op, ?_⟩, fun sel hi => absurd hi (hprefix sel)⟩
        simp [hencode, oneByte_of_faulting (.inl h), h, invalidPrimary, raiseFault]
      · refine ⟨_, exec_decodeBytes_unimplemented h second s, nofun, fun _ _ => ⟨op, ?_⟩, fun sel hi => absurd hi (hprefix sel)⟩
        simp [hencode, oneByte_of_faulting (.inr h), not_mem_invalidSet_of_unimplemented h, unimplementedPrimary, raiseFault]
      · have htwo : hasSecondByte Config.prefixByte = true := rfl
        refine ⟨_, exec_decodeExtended_unimplemented h s, nofun, fun _ _ => ⟨second, ?_⟩, fun sel hi => absurd hi (hprefix sel)⟩
        simp [hencode, htwo, not_mem_invalidSet_of_selector h, unimplementedExtended, raiseFault]

/-- Settles O51: `run_replicate_append` where the samples end and where the next one is high. -/
theorem runIsRepeatedStep : Obligations.RunIsRepeatedStep := by
  refine ⟨fun k s => ?_, fun k rest => run_replicate_append (run_stop rest) k, fun stops _ _ h => run_of_faulted stops h, run_stop⟩
  rw [← run_replicate_append (tail := []) (fun _ => rfl), List.append_nil]

/-- Settles O7: the decoder reads from the two bytes at `pc` the instruction fetched, and fetching moves `pc` past its encoding. -/
theorem stepRunsDecodedInstruction : Obligations.StepRunsDecodedInstruction := by
  intro s i rest hr hdecode
  obtain ⟨rfl, -⟩ := Decoded.ok.inj ((decode_memRead_pc s).symm.trans hdecode)
  rw [step_running hr, ← fetchInstr_snd_encode]

/-- Settles O42: the byte 0x00 is the row NOP, which is one byte long and answers the state it is given. -/
theorem nopOnlyAdvancesPc : Obligations.NopOnlyAdvancesPc := by
  refine ⟨exec_form_nop, fun s hr hop => ?_⟩
  have hone : hasSecondByte 0x00 = false := rfl
  have hnop : (fetchInstr s).1.form = some .nop := by rw [fetchInstr_fst, hop]; rfl
  rw [step_of_form hr hnop, fetchInstr_snd, hop, hone]
  rfl

end Sys2Proof.Machine
end

section
/-! SUPPORT. The faults a running step can take (60_exceptions.md R261 to R263), and which one it takes. -/

namespace Sys2Proof.Machine

/-- The record a step at `pc` raises, by the byte it fetches last (60_exceptions.md R261, R262; 46_dispatch.md R246, R247). -/
inductive FaultAt (s : State) : FaultRecord → Prop where
  | invalid (hop : s.memRead s.pc ∈ invalidSet) : FaultAt s ⟨.invalidOpcode, s.memRead s.pc, s.pc, false⟩
  | primary (hop : s.memRead s.pc ∈ unimplementedPrimarySet) : FaultAt s ⟨.notImplemented, s.memRead s.pc, s.pc, false⟩
  | extended (hop : s.memRead s.pc = Config.prefixByte) (hsel : unimplementedSelector (s.memRead (s.pc + 1)) = true) :
      FaultAt s ⟨.notImplemented, s.memRead (s.pc + 1), s.pc + 1, true⟩

/-- The state after a fault (60_exceptions.md R263, R265): `pc` past the byte that faults, and the record in `status`. -/
def afterFault (r : FaultRecord) (s : State) : State :=
  { s with pc := s.pc + (if r.ext then 2 else 1), status := .faulted r }

/-- The inversion of a running step by its outcome: it performs a form, or raises the fault of the bytes at `pc`. -/
theorem step_form_or_fault {s t : State} (hr : s.status = .running) (hstep : step s = .next t) :
    (∃ form, t = perform form (fetchInstr s).2) ∨ ∃ r, FaultAt s r ∧ t = afterFault r s := by
  rcases step_cases hr hstep with ⟨form, -, ht⟩ | ⟨hop, ht⟩ | ⟨hop, ht⟩ | ⟨hop, hsel, ht⟩
  · exact .inl ⟨form, ht⟩
  · exact .inr ⟨_, .primary hop, ht⟩
  · exact .inr ⟨_, .invalid hop, ht⟩
  · exact .inr ⟨_, .extended hop hsel, ht⟩

/-- Where the bytes at `pc` fault, the step raises that fault. -/
theorem step_of_faultAt {s : State} {r : FaultRecord} (hr : s.status = .running) (h : FaultAt s r) :
    step s = .next (afterFault r s) := by
  rw [step_running hr, fetchInstr_fst, fetchInstr_snd]
  cases h with
  | invalid hop =>
    rw [exec_decodeBytes_invalid hop, (oneByte_of_faulting (.inl hop)).2]
    simp [invalidPrimary, raiseFault, afterFault]
  | primary hop =>
    rw [exec_decodeBytes_unimplemented hop, (oneByte_of_faulting (.inr hop)).2]
    simp [unimplementedPrimary, raiseFault, afterFault]
  | extended hop hsel =>
    have hrow : ∀ sel, decodeBytes Config.prefixByte sel = decodeExtended sel := fun _ => rfl
    have hsecond : hasSecondByte Config.prefixByte = true := rfl
    have haddr : s.pc + 2 - 1 = s.pc + 1 := by bv_omega
    rw [hop, hrow, exec_decodeExtended_unimplemented hsel, hsecond]
    simp only [unimplementedExtended, raiseFault, afterFault, if_true, haddr]

/-- A form keeps a running CORE running. -/
theorem perform_fetchInstr_status {s : State} (hr : s.status = .running) (form : Form) :
    (perform form (fetchInstr s).2).status = .running := by
  rw [(perform_control form _).2.2, fetchInstr_snd]
  exact hr

/-- A running step ends with a record exactly where the bytes at `pc` raise it. -/
theorem step_faults_iff {s t : State} {r : FaultRecord} (hr : s.status = .running) (hstep : step s = .next t) :
    t.status = .faulted r ↔ FaultAt s r := by
  constructor
  · intro ht
    rcases step_form_or_fault hr hstep with ⟨form, rfl⟩ | ⟨r', hfault, rfl⟩
    · rw [perform_fetchInstr_status hr] at ht
      cases ht
    · cases ht
      exact hfault
  · intro hfault
    obtain rfl := Host.Outcome.next.inj ((step_of_faultAt hr hfault).symm.trans hstep)
    rfl

theorem faultAt_invalidOpcode_iff {s : State} {op : Byte} {addr : Word} {ext : Bool} :
    FaultAt s ⟨.invalidOpcode, op, addr, ext⟩ ↔ op = s.memRead s.pc ∧ op ∈ invalidSet ∧ addr = s.pc ∧ ext = false := by
  constructor
  · rintro ⟨hop⟩
    exact ⟨rfl, hop, rfl, rfl⟩
  · rintro ⟨rfl, hop, rfl, rfl⟩
    exact .invalid hop

theorem faultAt_notImplemented_iff {s : State} {op : Byte} {addr : Word} {ext : Bool} :
    FaultAt s ⟨.notImplemented, op, addr, ext⟩ ↔
      (op = s.memRead s.pc ∧ op ∈ unimplementedPrimarySet ∧ addr = s.pc ∧ ext = false) ∨
      (s.memRead s.pc = Config.prefixByte ∧ op = s.memRead (s.pc + 1) ∧ unimplementedSelector op = true ∧
        addr = s.pc + 1 ∧ ext = true) := by
  constructor
  · rintro (_ | hop | ⟨hop, hsel⟩)
    · exact .inl ⟨rfl, hop, rfl, rfl⟩
    · exact .inr ⟨hop, rfl, hsel, rfl, rfl⟩
  · rintro (⟨rfl, hop, rfl, rfl⟩ | ⟨hop, rfl, hsel, rfl, rfl⟩)
    · exact .primary hop
    · exact .extended hop hsel

/-! ## The invariant -/

/-- The record of a fault names the byte it was raised by, with `pc` one past it. -/
theorem recordTruthful_afterFault {s : State} {r : FaultRecord} (h : FaultAt s r) : RecordTruthful (afterFault r s) := by
  cases h with
  | invalid hop => exact ⟨rfl, rfl, rfl, hop⟩
  | primary hop => exact ⟨rfl, rfl, .inl ⟨rfl, hop⟩⟩
  | extended hop hsel =>
    have hpc : s.pc + 2 = s.pc + 1 + 1 := by bv_omega
    have haddr : s.pc + 1 - 1 = s.pc := by bv_omega
    refine ⟨hpc, rfl, .inr ⟨rfl, hsel, ?_⟩⟩
    rw [haddr]
    exact hop

/-- A running CORE has no record to answer for. -/
theorem inv_of_running {s : State} (hr : s.status = .running) (hm : s.mem.wf) : Inv s := by
  refine ⟨hm, ?_⟩
  rw [RecordTruthful, hr]
  trivial

end Sys2Proof.Machine
end

section
/-! SUPPORT. `Reset()` and LoadImage (70_reset_and_hazards.md R290 to R297), as functions of memory. -/

namespace Sys2Proof.Machine

theorem loadImage_eq (cfg : Params) (buf : List Byte) (s : State) :
    loadImage cfg buf s = if buf.length ≤ 65536 then some (copyBytes cfg buf cfg.imageBase s) else none := rfl

theorem loadImage_eq_none_iff {cfg : Params} {buf : List Byte} {s : State} :
    loadImage cfg buf s = none ↔ 65536 < buf.length := by
  rw [loadImage_eq]
  split_ifs with h
  · simp [h]
  · simp [Nat.lt_of_not_le h]

theorem loadImage_eq_some_iff {cfg : Params} {buf : List Byte} {s t : State} :
    loadImage cfg buf s = some t ↔ buf.length ≤ 65536 ∧ copyBytes cfg buf cfg.imageBase s = t := by
  rw [loadImage_eq]
  split_ifs with h <;> simp [h]

section
variable (cfg : Params) (buf : List Byte) (base : Word) (s : State)

theorem sameRegsBut_copyBytes : SameRegsBut [] s (copyBytes cfg buf base s) := by
  intro r _
  have h := congrArg (State.reg · r) (copyBytes_rest cfg buf base s)
  rwa [reg_withMem] at h

theorem sameControl_copyBytes : SameControl s (copyBytes cfg buf base s) := by
  have h : { copyBytes cfg buf base s with mem := s.mem } = s := copyBytes_rest cfg buf base s
  exact ⟨congrArg (·.pc) h, congrArg (·.sp) h, congrArg (·.status) h⟩

/-- Copying bytes after `Reset()` is `Reset()` after copying: the one writes memory, the other all else. -/
theorem copyBytes_hostReset : copyBytes cfg buf base (hostReset s) = hostReset (copyBytes cfg buf base s) := by
  induction buf generalizing base s with
  | nil => rfl
  | cons v rest ih => exact ih (addrNext cfg base) (s.memWrite base v)

end

end Sys2Proof.Machine
end

section
/-! SUPPORT. The statements on faults (60_exceptions.md), on reset and on the host (70_reset_and_hazards.md). -/

namespace Sys2Proof.Machine

/-- Settles O52: a form keeps memory canonical (`perform_wf`) and raises nothing, a fault keeps memory and its record is truthful
(`recordTruthful_afterFault`), and a faulted state stays as it is. -/
theorem stepKeepsInvariant : Obligations.StepKeepsInvariant := by
  intro s t hinv hstep
  have hm : s.mem.wf := hinv.1
  cases hstatus : s.status with
  | faulted r =>
    obtain rfl := Host.Outcome.next.inj ((step_faulted hstatus).symm.trans hstep)
    exact hinv
  | running =>
    rcases step_form_or_fault hstatus hstep with ⟨form, rfl⟩ | ⟨r, hfault, rfl⟩
    · have hfetch : (fetchInstr s).2.mem.wf := by
        rw [fetchInstr_snd]
        exact hm
      exact inv_of_running (perform_fetchInstr_status hstatus form) (perform_wf hfetch form)
    · exact ⟨hm, recordTruthful_afterFault hfault⟩

/-- Settles O16: the record is the fault of the bytes at `pc` (`step_faults_iff`), and of kind InvalidOpcode there is one case. -/
theorem invalidOpcodeRaisedExactly : Obligations.InvalidOpcodeRaisedExactly :=
  fun _ _ _ _ _ hr hstep => (step_faults_iff hr hstep).trans faultAt_invalidOpcode_iff

/-- Settles O17: the same for the kind NotImplemented, of which there are two cases, one a page. -/
theorem notImplementedRaisedExactly : Obligations.NotImplementedRaisedExactly :=
  fun _ _ _ _ _ hr hstep => (step_faults_iff hr hstep).trans faultAt_notImplemented_iff

/-- Settles O19: a step that ends with a record has raised it (`step_faults_iff`), and `afterFault` is all that raising does
(`step_of_faultAt`). -/
theorem faultsArePrecise : Obligations.FaultsArePrecise := by
  intro s t r hr hstep ht
  have hfault : FaultAt s r := (step_faults_iff hr hstep).mp ht
  exact Host.Outcome.next.inj (hstep.symm.trans (step_of_faultAt hr hfault))

/-- Settles O8: `step_faulted`. -/
theorem faultedStepDoesNothing : Obligations.FaultedStepDoesNothing :=
  fun _ _ h => step_faulted h

/-- Settles O20: completion is the record InvalidOpcode of 0xDD at the terminator, so the step took it at that address from that
byte (`invalidOpcodeRaisedExactly`), which is invalid. -/
theorem runCompletesAtTerminator : Obligations.RunCompletesAtTerminator := by
  intro s t terminator hr hstep
  have hinvalid : (0xDD : Byte) ∈ invalidSet := by decide
  rw [RunComplete, invalidOpcodeRaisedExactly s t 0xDD terminator false hr hstep]
  constructor
  · rintro ⟨hop, -, haddr, -⟩
    exact ⟨haddr.symm, hop.symm⟩
  · rintro ⟨haddr, hop⟩
    exact ⟨hop.symm, hinvalid, haddr.symm, rfl⟩

/-- Settles O49: where the bytes are (`memRead_copyBytes`, `memRead_copyBytes_other`) and what the copy keeps; the default base
is 0. -/
theorem loadImageCopiesBuffer : Obligations.LoadImageCopiesBuffer := by
  refine ⟨fun cfg buf s hm => ⟨loadImage_eq_none_iff.mpr, fun hlen => ?_⟩, fun buf s t hm hload => ?_⟩
  · exact ⟨_, loadImage_eq_some_iff.mpr ⟨hlen, rfl⟩, fun k v => memRead_copyBytes cfg buf _ s k v hm hlen,
      memRead_copyBytes_other cfg buf _ s, sameRegsBut_copyBytes cfg buf _ s, sameControl_copyBytes cfg buf _ s,
      copyBytes_wf cfg buf _ hm⟩
  · have hbase : params.imageBase = 0#16 := rfl
    obtain ⟨hlen, rfl⟩ := loadImage_eq_some_iff.mp hload
    rw [hbase]
    refine ⟨fun k v hk => ?_, fun addr haddr => ?_⟩
    · have h := memRead_copyBytes params buf 0#16 s k v hm hlen hk
      rwa [BitVec.zero_add] at h
    · refine memRead_copyBytes_other params buf 0#16 s addr ?_
      rwa [BitVec.sub_zero]

/-- Settles O50: the same buffers are refused, and on the others `copyBytes_hostReset`; `Reset()` twice keeps the one memory. -/
theorem resetAndLoadImageCommute : Obligations.ResetAndLoadImageCommute := by
  refine ⟨fun cfg buf s => ?_, fun _ => rfl⟩
  rw [loadImage_eq, loadImage_eq, copyBytes_hostReset]
  split_ifs <;> rfl

/-- Settles O54: `Reset()` keeps memory and leaves no record, and the copy keeps memory canonical (`copyBytes_wf`) and the CORE
running. -/
theorem hostKeepsInvariant : Obligations.HostKeepsInvariant := by
  refine ⟨fun s hinv => inv_of_running (hostReset_status s) hinv.1, fun cfg buf s t hinv hr hload => ?_⟩
  obtain ⟨-, rfl⟩ := loadImage_eq_some_iff.mp hload
  obtain ⟨-, -, hstatus⟩ := sameControl_copyBytes cfg buf cfg.imageBase s
  exact inv_of_running (hstatus.trans hr) (copyBytes_wf cfg buf _ hinv.1)

end Sys2Proof.Machine
end
